-- ==== Sys2Proof/Word.lean ====
section
/-! DEFINITION. The widths of the TMS320C28x: words, long words, data-space and program-space addresses
(R6, R100), and the slices of them the spec names (R7). -/

namespace Sys2Proof

/-- A word, the unit of every address: 16 bits (R6). -/
abbrev Word := BitVec 16

/-- A long word: 32 bits (R14). -/
abbrev Long := BitVec 32

/-- The 64-bit concatenation `ACC:P` (R9). -/
abbrev Quad := BitVec 64

/-- A data-space word address: 32 bits (R100). -/
abbrev DataAddr := BitVec 32

/-- A program-space word address: 22 bits (R100). -/
abbrev ProgAddr := BitVec 22

/-- A byte, the smallest thing an access reaches: the LSByte or the MSByte of a word (R111). -/
abbrev Byte := BitVec 8

/-- Bits 15:0 of a long word. -/
abbrev lowWord (x : Long) : Word := x.extractLsb' 0 16

/-- Bits 31:16 of a long word. -/
abbrev highWord (x : Long) : Word := x.extractLsb' 16 16

/-- `x:y`, the high part first (R7). -/
abbrev longOf (hi lo : Word) : Long := hi ++ lo

end Sys2Proof
end

