-- ==== Sys2Proof/Syntax.lean ====
section
/-! DEFINITION. The instructions of the TMS320C28x as the spec's opcode table lists them: one constructor of
`Instr` for each of the 228 rows of spec/opcode_table.json, with the operand names the rules of files 40 to 46
use, and the operand kinds they share (R9, R143, R147, R150). Which addressing mode an 8-bit `loc` field names
depends on ST1 (R145), so an instruction carries the field itself and the machine reads it with `decodeLoc`. -/

namespace Sys2Proof

/-- An auxiliary register XAR0 to XAR7 (R26); also the value of ST1.ARP (R46). -/
inductive XReg where
  | xar0 | xar1 | xar2 | xar3 | xar4 | xar5 | xar6 | xar7
deriving DecidableEq, Repr

/-- AX of the syntax lines: either half of ACC (R9). -/
inductive AccHalf where
  | al | ah
deriving DecidableEq, Repr

/-- The sixteen condition codes (R150). -/
inductive Cond where
  | neq | eq | gt | geq | lt | leq | hi | his | lo | los | nov | ov | ntc | tc | nbio | unc
deriving DecidableEq, Repr

/-- The 8-bit memory or register addressing mode field LLLLLLLL of an instruction with a `loc16` or `loc32`
operand (R120, R126). -/
abbrev Loc := BitVec 8

/-- The addressing modes that compute a data-space address (R121, R122, R123, R126). -/
inductive MemMode where
  /-- `@6bit`: DP page and 6-bit offset (R121). -/
  | direct6 (off : BitVec 6)
  /-- `@@7bit`, AMODE = 1: DP[15:1] and 7-bit offset (R121). -/
  | direct7 (off : BitVec 7)
  /-- PAGE0 = 1: data page 0 and 6-bit offset (R122). -/
  | page0 (off : BitVec 6)
  /-- `*-SP[6bit]` (R122). -/
  | spRel (off : BitVec 6)
  /-- `*XARn++`. -/
  | postInc (n : XReg)
  /-- `*--XARn`. -/
  | preDec (n : XReg)
  /-- `*+XARn[AR0]`. -/
  | idxAr0 (n : XReg)
  /-- `*+XARn[AR1]`. -/
  | idxAr1 (n : XReg)
  /-- `*+XARn[3bit]`, and `*XARn` as offset 0. -/
  | idx3 (n : XReg) (off : BitVec 3)
  /-- `*BR0++`: reverse-carry post-increment of AR(ARP) by AR0. -/
  | brInc
  /-- `*BR0--`: reverse-carry post-decrement of AR(ARP) by AR0. -/
  | brDec
  /-- `*,ARPn`: address XAR(ARP), then ARP is n. -/
  | setArp (n : XReg)
  /-- `*`: address XAR(ARP). -/
  | cur
  /-- `*++`. -/
  | curInc
  /-- `*--`. -/
  | curDec
  /-- `*0++`. -/
  | cur0Inc
  /-- `*0--`. -/
  | cur0Dec
  /-- `*SP++`, the push mode (R122). -/
  | spInc
  /-- `*--SP`, the pop mode (R122). -/
  | spDec
  /-- `*AR6%++`, the circular mode of AMODE = 0. -/
  | circ
deriving DecidableEq, Repr

/-- The registers a `loc` field can name (R124, R126). In a 16-bit access `ar n` is ARn; in a 32-bit access
`ar n` is XARn, `al` is ACC, `pl` is P and `t` is XT. -/
inductive LocReg where
  | ar (n : XReg) | ah | al | ph | pl | t | sp
deriving DecidableEq, Repr

/-- What a `loc` field selects under the present AMODE and PAGE0 (R120, R126). -/
inductive AddrMode where
  | mem (m : MemMode)
  | reg (r : LocReg)
  /-- A code to which the spec gives no effect under AMODE = 1: the `11......` group, which R126 says is not
  `*+XARn[3bit]` there, and `*+XAR6[AR1%++]`, which R126 names without its effect. -/
  | noEffectGiven
deriving DecidableEq, Repr

/-- The instructions: one constructor for each row of spec/opcode_table.json. -/
inductive Instr where
  /-- R171 (40_status_mode.md): `SETC mode`; encoding `00111011CCCCCCCC`. -/
  | setcMode (c : BitVec 8)
  /-- R172 (40_status_mode.md): `CLRC mode`; encoding `00101001CCCCCCCC`. -/
  | clrcMode (c : BitVec 8)
  /-- R173 (40_status_mode.md): `SETC XF`; encoding `0101011000100110`. -/
  | setcXf
  /-- R174 (40_status_mode.md): `CLRC XF`; encoding `0101011000011011`. -/
  | clrcXf
  /-- R175 (40_status_mode.md): `SETC OBJMODE (C28OBJ)`; encoding `0101011000011111`. -/
  | setcObjmode
  /-- R176 (40_status_mode.md): `CLRC OBJMODE (C27OBJ)`; encoding `0101011000110110`. -/
  | clrcObjmode
  /-- R177 (40_status_mode.md): `SETC AMODE (LPADDR)`; encoding `0101011000011110`. -/
  | setcAmode
  /-- R178 (40_status_mode.md): `CLRC AMODE (C28ADDR)`; encoding `0101011000010110`. -/
  | clrcAmode
  /-- R179 (40_status_mode.md): `EALLOW`; encoding `0111011000100010`. -/
  | eallow
  /-- R180 (40_status_mode.md): `EDIS`; encoding `0111011000011010`. -/
  | edis
  /-- R181 (40_status_mode.md): `ASP`; encoding `0111011000011011`. -/
  | asp
  /-- R182 (40_status_mode.md): `NASP`; encoding `0111011000010111`. -/
  | nasp
  /-- R183 (40_status_mode.md): `ZAP OVC`; encoding `0101011001011100`. -/
  | zapOvc
  /-- R184 (40_status_mode.md): `MOV OVC,loc16`; encoding `0101011000000010 00000000LLLLLLLL`. -/
  | movOvcLoc16 (loc : Loc)
  /-- R185 (40_status_mode.md): `MOVU OVC,loc16`; encoding `0101011001100010 00000000LLLLLLLL`. -/
  | movuOvcLoc16 (loc : Loc)
  /-- R186 (40_status_mode.md): `SPM shift`; encoding `1111111101101PPP`. -/
  | spm (pm : BitVec 3)
  /-- R211 (41_acc_arith.md): `ADD ACC,loc16<<0`; encoding `10000001LLLLLLLL`. -/
  | addAccLoc16 (loc : Loc)
  /-- R211 (41_acc_arith.md): `ADD ACC,loc16<<1..15`; encoding `0101011000000100 0000SSSSLLLLLLLL`. -/
  | addAccLoc16Shl (sh : BitVec 4) (loc : Loc)
  /-- R211 (41_acc_arith.md): `ADD ACC,loc16<<16`; encoding `00000101LLLLLLLL`. -/
  | addAccLoc16Shl16 (loc : Loc)
  /-- R212 (41_acc_arith.md): `ADD ACC,#16bit<<0..15`; encoding `111111110001SSSS CCCCCCCCCCCCCCCC`. -/
  | addAccImmShl (sh : BitVec 4) (c : BitVec 16)
  /-- R213 (41_acc_arith.md): `ADD ACC,loc16<<T`; encoding `0101011000100011 00000000LLLLLLLL`. -/
  | addAccLoc16ShlT (loc : Loc)
  /-- R214 (41_acc_arith.md): `ADDB ACC,#8bit`; encoding `00001001CCCCCCCC`. -/
  | addbAcc (c : BitVec 8)
  /-- R215 (41_acc_arith.md): `ADDCL ACC,loc32`; encoding `0101011001000000 xxxxxxxxLLLLLLLL`. -/
  | addclAcc (loc : Loc)
  /-- R216 (41_acc_arith.md): `ADDCU ACC,loc16`; encoding `00001100LLLLLLLL`. -/
  | addcuAcc (loc : Loc)
  /-- R217 (41_acc_arith.md): `ADDL ACC,loc32`; encoding `00000111LLLLLLLL`. -/
  | addlAcc (loc : Loc)
  /-- R218 (41_acc_arith.md): `ADDL loc32,ACC`; encoding `0101011000000001 00000000LLLLLLLL`. -/
  | addlLoc32Acc (loc : Loc)
  /-- R219 (41_acc_arith.md): `ADDU ACC,loc16`; encoding `00001101LLLLLLLL`. -/
  | adduAcc (loc : Loc)
  /-- R220 (41_acc_arith.md): `ADDUL ACC,loc32`; encoding `0101011001010011 xxxxxxxxLLLLLLLL`. -/
  | addulAcc (loc : Loc)
  /-- R221 (41_acc_arith.md): `ADDUL P,loc32`; encoding `0101011001010111 00000000LLLLLLLL`. -/
  | addulP (loc : Loc)
  /-- R222 (41_acc_arith.md): `SUB ACC,loc16<<0`; encoding `10101110LLLLLLLL`. -/
  | subAccLoc16 (loc : Loc)
  /-- R222 (41_acc_arith.md): `SUB ACC,loc16<<1..15`; encoding `0101011000000000 0000SSSSLLLLLLLL`. -/
  | subAccLoc16Shl (sh : BitVec 4) (loc : Loc)
  /-- R222 (41_acc_arith.md): `SUB ACC,loc16<<16`; encoding `00000100LLLLLLLL`. -/
  | subAccLoc16Shl16 (loc : Loc)
  /-- R223 (41_acc_arith.md): `SUB ACC,#16bit<<0..15`; encoding `111111110000SSSS CCCCCCCCCCCCCCCC`. -/
  | subAccImmShl (sh : BitVec 4) (c : BitVec 16)
  /-- R224 (41_acc_arith.md): `SUB ACC,loc16<<T`; encoding `0101011000100111 00000000LLLLLLLL`. -/
  | subAccLoc16ShlT (loc : Loc)
  /-- R225 (41_acc_arith.md): `SUBB ACC,#8bit`; encoding `00011001CCCCCCCC`. -/
  | subbAcc (c : BitVec 8)
  /-- R226 (41_acc_arith.md): `SUBBL ACC,loc32`; encoding `0101011001010100 00000000LLLLLLLL`. -/
  | subblAcc (loc : Loc)
  /-- R227 (41_acc_arith.md): `SBBU ACC,loc16`; encoding `00011101LLLLLLLL`. -/
  | sbbuAcc (loc : Loc)
  /-- R228 (41_acc_arith.md): `SUBL ACC,loc32`; encoding `00000011LLLLLLLL`. -/
  | sublAcc (loc : Loc)
  /-- R229 (41_acc_arith.md): `SUBL loc32,ACC`; encoding `0101011001000001 00000000LLLLLLLL`. -/
  | sublLoc32Acc (loc : Loc)
  /-- R230 (41_acc_arith.md): `SUBRL loc32,ACC`; encoding `0101011001001001 00000000LLLLLLLL`. -/
  | subrlLoc32Acc (loc : Loc)
  /-- R231 (41_acc_arith.md): `SUBU ACC,loc16`; encoding `00000001LLLLLLLL`. -/
  | subuAcc (loc : Loc)
  /-- R232 (41_acc_arith.md): `SUBUL ACC,loc32`; encoding `0101011001010101 00000000LLLLLLLL`. -/
  | subulAcc (loc : Loc)
  /-- R233 (41_acc_arith.md): `SUBUL P,loc32`; encoding `0101011001011101 00000000LLLLLLLL`. -/
  | subulP (loc : Loc)
  /-- R234 (41_acc_arith.md): `CMPL ACC,loc32`; encoding `00001111LLLLLLLL`. -/
  | cmplAcc (loc : Loc)
  /-- R236 (41_acc_arith.md): `ADD ACC,P (ADDL ACC,P<<PM)`; encoding `0001000010101100`. -/
  | addAccP
  /-- R237 (41_acc_arith.md): `SUB ACC,P (SUBL ACC,P<<PM)`; encoding `0001000110101100`. -/
  | subAccP
  /-- R238 (41_acc_arith.md): `CMPL ACC,P<<PM (CMP ACC,P)`; encoding `1111111101011001`. -/
  | cmplAccP
  /-- R239 (41_acc_arith.md): `MOV ACC,P (MOVL ACC,P<<PM)`; encoding `0001011010101100`. -/
  | movAccP
  /-- R240 (41_acc_arith.md): `MAXL ACC,loc32`; encoding `0101011001100001 00000000LLLLLLLL`. -/
  | maxlAcc (loc : Loc)
  /-- R241 (41_acc_arith.md): `MINL ACC,loc32`; encoding `0101011001010000 00000000LLLLLLLL`. -/
  | minlAcc (loc : Loc)
  /-- R242 (41_acc_arith.md): `ABS ACC`; encoding `1111111101010110`. -/
  | absAcc
  /-- R243 (41_acc_arith.md): `ABSTC ACC`; encoding `0101011001011111`. -/
  | abstcAcc
  /-- R244 (41_acc_arith.md): `NEG ACC`; encoding `1111111101010100`. -/
  | negAcc
  /-- R245 (41_acc_arith.md): `NEGTC ACC`; encoding `0101011000110010`. -/
  | negtcAcc
  /-- R246 (41_acc_arith.md): `NEG64 ACC:P`; encoding `0101011001011000`. -/
  | neg64AccP
  /-- R247 (41_acc_arith.md): `SAT ACC`; encoding `1111111101010111`. -/
  | satAcc
  /-- R248 (41_acc_arith.md): `SAT64 ACC:P`; encoding `0101011000111110`. -/
  | sat64AccP
  /-- R249 (41_acc_arith.md): `TEST ACC`; encoding `1111111101011000`. -/
  | testAcc
  /-- R250 (41_acc_arith.md): `ZAPA`; encoding `0101011000110011`. -/
  | zapa
  /-- R251 (41_acc_arith.md): `SUBCU ACC,loc16`; encoding `00011111LLLLLLLL`. -/
  | subcu (loc : Loc)
  /-- R252 (41_acc_arith.md): `SUBCUL ACC,loc32`; encoding `0101011000010111 00000000LLLLLLLL`. -/
  | subcul (loc : Loc)
  /-- R253 (41_acc_arith.md): `NORM ACC,XARn++`; encoding `1111111101111nnn`. -/
  | normXarInc (n : XReg)
  /-- R253 (41_acc_arith.md): `NORM ACC,XARn--`; encoding `1111111101110nnn`. -/
  | normXarDec (n : XReg)
  /-- R254 (41_acc_arith.md): `NORM ACC,*`; encoding `0101011000100100`. -/
  | normInd
  /-- R254 (41_acc_arith.md): `NORM ACC,*++`; encoding `0101011001011010`. -/
  | normIndInc
  /-- R254 (41_acc_arith.md): `NORM ACC,*--`; encoding `0101011000100000`. -/
  | normIndDec
  /-- R254 (41_acc_arith.md): `NORM ACC,*0++`; encoding `0101011001110111`. -/
  | normInd0Inc
  /-- R254 (41_acc_arith.md): `NORM ACC,*0--`; encoding `0101011000110000`. -/
  | normInd0Dec
  /-- R255 (41_acc_arith.md): `CSB ACC`; encoding `0101011000110101`. -/
  | csb
  /-- R271 (42_word_arith.md): `ADD AX,loc16`; encoding `1001010ALLLLLLLL`. -/
  | addAxLoc16 (ax : AccHalf) (loc : Loc)
  /-- R272 (42_word_arith.md): `ADD loc16,AX`; encoding `0111001ALLLLLLLL`. -/
  | addLoc16Ax (ax : AccHalf) (loc : Loc)
  /-- R273 (42_word_arith.md): `ADD loc16,#16bitSigned`; encoding `00001000LLLLLLLL CCCCCCCCCCCCCCCC`. -/
  | addLoc16Imm (loc : Loc) (c : BitVec 16)
  /-- R274 (42_word_arith.md): `ADDB AX,#8bitSigned`; encoding `1001110ACCCCCCCC`. -/
  | addbAx (ax : AccHalf) (c : BitVec 8)
  /-- R275 (42_word_arith.md): `SUB AX,loc16`; encoding `1001111ALLLLLLLL`. -/
  | subAxLoc16 (ax : AccHalf) (loc : Loc)
  /-- R276 (42_word_arith.md): `SUB loc16,AX`; encoding `0111010ALLLLLLLL`. -/
  | subLoc16Ax (ax : AccHalf) (loc : Loc)
  /-- R277 (42_word_arith.md): `SUBR loc16,AX`; encoding `1110101ALLLLLLLL`. -/
  | subrLoc16Ax (ax : AccHalf) (loc : Loc)
  /-- R278 (42_word_arith.md): `INC loc16`; encoding `00001010LLLLLLLL`. -/
  | incLoc16 (loc : Loc)
  /-- R279 (42_word_arith.md): `DEC loc16`; encoding `00001011LLLLLLLL`. -/
  | decLoc16 (loc : Loc)
  /-- R280 (42_word_arith.md): `CMP AX,loc16`; encoding `0101010ALLLLLLLL`. -/
  | cmpAxLoc16 (ax : AccHalf) (loc : Loc)
  /-- R281 (42_word_arith.md): `CMP loc16,#16bitSigned`; encoding `00011011LLLLLLLL CCCCCCCCCCCCCCCC`. -/
  | cmpLoc16Imm (loc : Loc) (c : BitVec 16)
  /-- R282 (42_word_arith.md): `CMPB AX,#8bit`; encoding `0101001ACCCCCCCC`. -/
  | cmpbAx (ax : AccHalf) (c : BitVec 8)
  /-- R283 (42_word_arith.md): `MAX AX,loc16`; encoding `010101100111001A 00000000LLLLLLLL`. -/
  | maxAx (ax : AccHalf) (loc : Loc)
  /-- R284 (42_word_arith.md): `MIN AX,loc16`; encoding `010101100111010A 00000000LLLLLLLL`. -/
  | minAx (ax : AccHalf) (loc : Loc)
  /-- R285 (42_word_arith.md): `NEG AX`; encoding `111111110101110A`. -/
  | negAx (ax : AccHalf)
  /-- R286 (42_word_arith.md): `TBIT loc16,#bit`; encoding `0100BBBBLLLLLLLL`. -/
  | tbitImm (b : BitVec 4) (loc : Loc)
  /-- R287 (42_word_arith.md): `TBIT loc16,T`; encoding `0101011000100101 00000000LLLLLLLL`. -/
  | tbitT (loc : Loc)
  /-- R288 (42_word_arith.md): `TCLR loc16,#bit`; encoding `0101011000001001 0000BBBBLLLLLLLL`. -/
  | tclr (b : BitVec 4) (loc : Loc)
  /-- R289 (42_word_arith.md): `TSET loc16,#bit`; encoding `0101011000001101 0000BBBBLLLLLLLL`. -/
  | tset (b : BitVec 4) (loc : Loc)
  /-- R290 (42_word_arith.md): `CMPR 0`; encoding `0101011000011101`. -/
  | cmpr0
  /-- R290 (42_word_arith.md): `CMPR 1`; encoding `0101011000011001`. -/
  | cmpr1
  /-- R290 (42_word_arith.md): `CMPR 2`; encoding `0101011000011000`. -/
  | cmpr2
  /-- R290 (42_word_arith.md): `CMPR 3`; encoding `0101011000011100`. -/
  | cmpr3
  /-- R311 (43_shift.md): `LSL ACC,#1..16`; encoding `111111110011SSSS`. -/
  | lslAccImm (sh : BitVec 4)
  /-- R312 (43_shift.md): `LSL ACC,T`; encoding `1111111101010000`. -/
  | lslAccT
  /-- R313 (43_shift.md): `LSLL ACC,T`; encoding `0101011000111011`. -/
  | lsllAccT
  /-- R314 (43_shift.md): `SFR ACC,#1..16`; encoding `111111110100SSSS`. -/
  | sfrAccImm (sh : BitVec 4)
  /-- R315 (43_shift.md): `SFR ACC,T`; encoding `1111111101010001`. -/
  | sfrAccT
  /-- R316 (43_shift.md): `LSRL ACC,T`; encoding `0101011000100010`. -/
  | lsrlAccT
  /-- R317 (43_shift.md): `ASRL ACC,T`; encoding `0101011000010000`. -/
  | asrlAccT
  /-- R318 (43_shift.md): `ROL ACC`; encoding `1111111101010011`. -/
  | rolAcc
  /-- R319 (43_shift.md): `ROR ACC`; encoding `1111111101010010`. -/
  | rorAcc
  /-- R320 (43_shift.md): `LSL AX,#1..16`; encoding `11111111100ASSSS`. -/
  | lslAxImm (ax : AccHalf) (sh : BitVec 4)
  /-- R321 (43_shift.md): `LSL AX,T`; encoding `111111110110011A`. -/
  | lslAxT (ax : AccHalf)
  /-- R322 (43_shift.md): `LSR AX,#1..16`; encoding `11111111110ASSSS`. -/
  | lsrAxImm (ax : AccHalf) (sh : BitVec 4)
  /-- R323 (43_shift.md): `LSR AX,T`; encoding `111111110110001A`. -/
  | lsrAxT (ax : AccHalf)
  /-- R324 (43_shift.md): `ASR AX,#1..16`; encoding `11111111101ASSSS`. -/
  | asrAxImm (ax : AccHalf) (sh : BitVec 4)
  /-- R325 (43_shift.md): `ASR AX,T`; encoding `111111110110010A`. -/
  | asrAxT (ax : AccHalf)
  /-- R326 (43_shift.md): `LSL64 ACC:P,#1..16`; encoding `010101101010SSSS`. -/
  | lsl64Imm (sh : BitVec 4)
  /-- R327 (43_shift.md): `LSL64 ACC:P,T`; encoding `0101011001010010`. -/
  | lsl64T
  /-- R328 (43_shift.md): `LSR64 ACC:P,#1..16`; encoding `010101101001SSSS`. -/
  | lsr64Imm (sh : BitVec 4)
  /-- R329 (43_shift.md): `LSR64 ACC:P,T`; encoding `0101011001011011`. -/
  | lsr64T
  /-- R330 (43_shift.md): `ASR64 ACC:P,#1..16`; encoding `010101101000SSSS`. -/
  | asr64Imm (sh : BitVec 4)
  /-- R331 (43_shift.md): `ASR64 ACC:P,T`; encoding `0101011000101100`. -/
  | asr64T
  /-- R352 (44_multiply.md): `MOVA T,loc16`; encoding `00010000LLLLLLLL`. -/
  | mova (loc : Loc)
  /-- R353 (44_multiply.md): `MOVAD T,loc16`; encoding `10100111LLLLLLLL`. -/
  | movad (loc : Loc)
  /-- R354 (44_multiply.md): `MOVP T,loc16`; encoding `00010110LLLLLLLL`. -/
  | movp (loc : Loc)
  /-- R355 (44_multiply.md): `MOVS T,loc16`; encoding `00010001LLLLLLLL`. -/
  | movs (loc : Loc)
  /-- R356 (44_multiply.md): `MPY P,T,loc16`; encoding `00110011LLLLLLLL`. -/
  | mpyPT (loc : Loc)
  /-- R357 (44_multiply.md): `MPY P,loc16,#16bit`; encoding `10001100LLLLLLLL CCCCCCCCCCCCCCCC`. -/
  | mpyPImm (loc : Loc) (c : BitVec 16)
  /-- R357 (44_multiply.md): `MPY ACC,T,loc16`; encoding `00010010LLLLLLLL`. -/
  | mpyAccT (loc : Loc)
  /-- R357 (44_multiply.md): `MPY ACC,loc16,#16bit`; encoding `00110100LLLLLLLL CCCCCCCCCCCCCCCC`. -/
  | mpyAccImm (loc : Loc) (c : BitVec 16)
  /-- R358 (44_multiply.md): `MPYA P,loc16,#16bit`; encoding `00010101LLLLLLLL CCCCCCCCCCCCCCCC`. -/
  | mpyaPImm (loc : Loc) (c : BitVec 16)
  /-- R359 (44_multiply.md): `MPYA P,T,loc16`; encoding `00010111LLLLLLLL`. -/
  | mpyaPT (loc : Loc)
  /-- R360 (44_multiply.md): `MPYS P,T,loc16`; encoding `00010011LLLLLLLL`. -/
  | mpysPT (loc : Loc)
  /-- R361 (44_multiply.md): `SQRA loc16`; encoding `0101011000010101 00000000LLLLLLLL`. -/
  | sqra (loc : Loc)
  /-- R361 (44_multiply.md): `SQRS loc16`; encoding `0101011000010001 00000000LLLLLLLL`. -/
  | sqrs (loc : Loc)
  /-- R362 (44_multiply.md): `MAC P,loc16,0:pma`; encoding `00010100LLLLLLLL CCCCCCCCCCCCCCCC`. -/
  | macPma (loc : Loc) (c : BitVec 16)
  /-- R363 (44_multiply.md): `MAC P,loc16,*XAR7`; encoding `0101011000000111 11000111LLLLLLLL`. -/
  | macXar7 (loc : Loc)
  /-- R363 (44_multiply.md): `MAC P,loc16,*XAR7++`; encoding `0101011000000111 10000111LLLLLLLL`. -/
  | macXar7Inc (loc : Loc)
  /-- R364 (44_multiply.md): `DMAC ACC:P,loc32,*XAR7`; encoding `0101011001001011 11000111LLLLLLLL`. -/
  | dmacXar7 (loc : Loc)
  /-- R364 (44_multiply.md): `DMAC ACC:P,loc32,*XAR7++`; encoding `0101011001001011 10000111LLLLLLLL`. -/
  | dmacXar7Inc (loc : Loc)
  /-- R365 (44_multiply.md): `IMPYL P,XT,loc32`; encoding `0101011000000101 00000000LLLLLLLL`. -/
  | impyl (loc : Loc)
  /-- R366 (44_multiply.md): `IMPYAL P,XT,loc32`; encoding `0101011001001100 00000000LLLLLLLL`. -/
  | impyal (loc : Loc)
  /-- R367 (44_multiply.md): `IMPYSL P,XT,loc32`; encoding `0101011001000011 00000000LLLLLLLL`. -/
  | impysl (loc : Loc)
  /-- R368 (44_multiply.md): `IMPYXUL P,XT,loc32`; encoding `0101011001100101 00000000LLLLLLLL`. -/
  | impyxul (loc : Loc)
  /-- R369 (44_multiply.md): `IMACL P,loc32,*XAR7`; encoding `0101011001001101 11000111LLLLLLLL`. -/
  | imaclXar7 (loc : Loc)
  /-- R369 (44_multiply.md): `IMACL P,loc32,*XAR7++`; encoding `0101011001001101 10000111LLLLLLLL`. -/
  | imaclXar7Inc (loc : Loc)
  /-- R370 (44_multiply.md): `XMAC P,loc16,*(pma)`; encoding `10000100LLLLLLLL CCCCCCCCCCCCCCCC`. -/
  | xmac (loc : Loc) (c : BitVec 16)
  /-- R371 (44_multiply.md): `XMACD P,loc16,*(pma)`; encoding `10100100LLLLLLLL CCCCCCCCCCCCCCCC`. -/
  | xmacd (loc : Loc) (c : BitVec 16)
  /-- R372 (44_multiply.md): `QMPYAL P,XT,loc32`; encoding `0101011001000110 00000000LLLLLLLL`. -/
  | qmpyal (loc : Loc)
  /-- R373 (44_multiply.md): `QMPYSL P,XT,loc32`; encoding `0101011001000101 00000000LLLLLLLL`. -/
  | qmpysl (loc : Loc)
  /-- R374 (44_multiply.md): `QMACL P,loc32,*XAR7`; encoding `0101011001001111 11000111LLLLLLLL`. -/
  | qmaclXar7 (loc : Loc)
  /-- R374 (44_multiply.md): `QMACL P,loc32,*XAR7++`; encoding `0101011001001111 10000111LLLLLLLL`. -/
  | qmaclXar7Inc (loc : Loc)
  /-- R391 (45_move.md): `MOV ACC,loc16<<0`; encoding `10000101LLLLLLLL`. -/
  | movAccLoc16 (loc : Loc)
  /-- R391 (45_move.md): `MOV ACC,loc16<<1..15`; encoding `0101011000000011 0000SSSSLLLLLLLL`. -/
  | movAccLoc16Shl (sh : BitVec 4) (loc : Loc)
  /-- R391 (45_move.md): `MOV ACC,loc16<<16`; encoding `00100101LLLLLLLL`. -/
  | movAccLoc16Shl16 (loc : Loc)
  /-- R392 (45_move.md): `MOV ACC,#16bit<<0..15`; encoding `111111110010SSSS CCCCCCCCCCCCCCCC`. -/
  | movAccImmShl (sh : BitVec 4) (c : BitVec 16)
  /-- R393 (45_move.md): `MOV ACC,loc16<<T`; encoding `0101011000000110 00000000LLLLLLLL`. -/
  | movAccLoc16ShlT (loc : Loc)
  /-- R394 (45_move.md): `MOV loc16,ACC<<1`; encoding `10110001LLLLLLLL`. -/
  | movLoc16AccShl1 (loc : Loc)
  /-- R394 (45_move.md): `MOV loc16,ACC<<2..8`; encoding `0101011000101101 00000SSSLLLLLLLL`. -/
  | movLoc16AccShl (sh : BitVec 3) (loc : Loc)
  /-- R395 (45_move.md): `MOVH loc16,ACC<<1`; encoding `10110011LLLLLLLL`. -/
  | movhLoc16AccShl1 (loc : Loc)
  /-- R395 (45_move.md): `MOVH loc16,ACC<<2..8`; encoding `0101011000101111 00000SSSLLLLLLLL`. -/
  | movhLoc16AccShl (sh : BitVec 3) (loc : Loc)
  /-- R396 (45_move.md): `MOV loc16,P`; encoding `00111111LLLLLLLL`. -/
  | movLoc16P (loc : Loc)
  /-- R397 (45_move.md): `MOVH loc16,P`; encoding `01010111LLLLLLLL`. -/
  | movhLoc16P (loc : Loc)
  /-- R398 (45_move.md): `MOV loc16,AX,COND`; encoding `010101100010101A 0000DDDDLLLLLLLL`. -/
  | movLoc16AxCond (ax : AccHalf) (cond : Cond) (loc : Loc)
  /-- R399 (45_move.md): `MOVB loc16,#8bit,COND`; encoding `010101101011DDDD CCCCCCCCLLLLLLLL`. -/
  | movbLoc16Cond (cond : Cond) (c : BitVec 8) (loc : Loc)
  /-- R400 (45_move.md): `MOVL loc32,ACC,COND`; encoding `0101011001001000 0000DDDDLLLLLLLL`. -/
  | movlLoc32AccCond (cond : Cond) (loc : Loc)
  /-- R401 (45_move.md): `MOV ARx,*-SP[6bit]`; encoding `01011nnnLLLLLLLL`. -/
  | movArx (n : XReg) (loc : Loc)
  /-- R402 (45_move.md): `MOVB AR0,#8bit`; encoding `11010nnnCCCCCCCC`. -/
  | movbAr (n : XReg) (c : BitVec 8)
  /-- R405 (45_move.md): `MOV loc16,IER`; encoding `00100000LLLLLLLL`. -/
  | movLoc16Ier (loc : Loc)
  /-- R406 (45_move.md): `MOV IER,loc16`; encoding `00100011LLLLLLLL`. -/
  | movIerLoc16 (loc : Loc)
  /-- R407 (45_move.md): `OR IER,#16bit`; encoding `0111011000100011 CCCCCCCCCCCCCCCC`. -/
  | orIer (c : BitVec 16)
  /-- R408 (45_move.md): `AND IER,#16bit`; encoding `0111011000100110 CCCCCCCCCCCCCCCC`. -/
  | andIer (c : BitVec 16)
  /-- R409 (45_move.md): `OR IFR,#16bit`; encoding `0111011000100111 CCCCCCCCCCCCCCCC`. -/
  | orIfr (c : BitVec 16)
  /-- R410 (45_move.md): `AND IFR,#16bit`; encoding `0111011000101111 CCCCCCCCCCCCCCCC`. -/
  | andIfr (c : BitVec 16)
  /-- R411 (45_move.md): `PUSH IFR`; encoding `0111011000001010`. -/
  | pushIfr
  /-- R412 (45_move.md): `PUSH DBGIER`; encoding `0111011000001110`. -/
  | pushDbgier
  /-- R413 (45_move.md): `POP DBGIER`; encoding `0111011000010010`. -/
  | popDbgier
  /-- R414 (45_move.md): `PUSH XAR0`; encoding `0011101010111101`. -/
  | pushXar0
  /-- R414 (45_move.md): `PUSH XAR1`; encoding `1011001010111101`. -/
  | pushXar1
  /-- R414 (45_move.md): `PUSH XAR2`; encoding `1010101010111101`. -/
  | pushXar2
  /-- R414 (45_move.md): `PUSH XAR3`; encoding `1010001010111101`. -/
  | pushXar3
  /-- R414 (45_move.md): `PUSH XAR4`; encoding `1010100010111101`. -/
  | pushXar4
  /-- R414 (45_move.md): `PUSH XAR5`; encoding `1010000010111101`. -/
  | pushXar5
  /-- R414 (45_move.md): `PUSH XAR6`; encoding `1100001010111101`. -/
  | pushXar6
  /-- R414 (45_move.md): `PUSH XAR7`; encoding `1100001110111101`. -/
  | pushXar7
  /-- R414 (45_move.md): `POP XAR0`; encoding `1000111010111110`. -/
  | popXar0
  /-- R414 (45_move.md): `POP XAR1`; encoding `1000101110111110`. -/
  | popXar1
  /-- R414 (45_move.md): `POP XAR2`; encoding `1000011010111110`. -/
  | popXar2
  /-- R414 (45_move.md): `POP XAR3`; encoding `1000001010111110`. -/
  | popXar3
  /-- R414 (45_move.md): `POP XAR4`; encoding `1000101010111110`. -/
  | popXar4
  /-- R414 (45_move.md): `POP XAR5`; encoding `1000001110111110`. -/
  | popXar5
  /-- R414 (45_move.md): `POP XAR6`; encoding `1100010010111110`. -/
  | popXar6
  /-- R414 (45_move.md): `POP XAR7`; encoding `1100010110111110`. -/
  | popXar7
  /-- R415 (45_move.md): `PUSH XT`; encoding `1010101110111101`. -/
  | pushXt
  /-- R415 (45_move.md): `POP XT`; encoding `1000011110111110`. -/
  | popXt
  /-- R416 (45_move.md): `PUSH AR1H:AR0H`; encoding `0000000000000101`. -/
  | pushAr1hAr0h
  /-- R417 (45_move.md): `POP AR1H:AR0H`; encoding `0000000000000011`. -/
  | popAr1hAr0h
  /-- R418 (45_move.md): `PUSH ST0`; encoding `0111011000011000`. -/
  | pushSt0
  /-- R418 (45_move.md): `POP ST0`; encoding `0111011000010011`. -/
  | popSt0
  /-- R418 (45_move.md): `PUSH ST1`; encoding `0111011000001000`. -/
  | pushSt1
  /-- R418 (45_move.md): `POP ST1`; encoding `0111011000000000`. -/
  | popSt1
  /-- R420 (45_move.md): `PREAD loc16,*XAR7`; encoding `00100100LLLLLLLL`. -/
  | pread (loc : Loc)
  /-- R421 (45_move.md): `PUSH IER`; encoding `0010000010111101`. -/
  | pushIer
  /-- R422 (45_move.md): `PWRITE *XAR7,loc16`; encoding `00100110LLLLLLLL`. -/
  | pwrite (loc : Loc)
  /-- R441 (46_control.md): `B 16bitOff,COND`; encoding `111111111110DDDD CCCCCCCCCCCCCCCC`. -/
  | b (cond : Cond) (c : BitVec 16)
  /-- R442 (46_control.md): `BF 16bitOff,COND`; encoding `010101101100DDDD CCCCCCCCCCCCCCCC`. -/
  | bf (cond : Cond) (c : BitVec 16)
  /-- R443 (46_control.md): `SB 8bitOff,COND`; encoding `0110DDDDCCCCCCCC`. -/
  | sb (cond : Cond) (c : BitVec 8)
  /-- R444 (46_control.md): `SBF 8bitOff,EQ`; encoding `11101100CCCCCCCC`. -/
  | sbfEq (c : BitVec 8)
  /-- R444 (46_control.md): `SBF 8bitOff,NEQ`; encoding `11101101CCCCCCCC`. -/
  | sbfNeq (c : BitVec 8)
  /-- R444 (46_control.md): `SBF 8bitOff,TC`; encoding `11101110CCCCCCCC`. -/
  | sbfTc (c : BitVec 8)
  /-- R444 (46_control.md): `SBF 8bitOff,NTC`; encoding `11101111CCCCCCCC`. -/
  | sbfNtc (c : BitVec 8)
  /-- R445 (46_control.md): `BANZ 16bitOff,ARn--`; encoding `0000000000001nnn CCCCCCCCCCCCCCCC`. -/
  | banz (n : XReg) (c : BitVec 16)
  /-- R446 (46_control.md): `BAR 16bitOff,ARn,ARm,EQ`; encoding `1000111110nnnmmm CCCCCCCCCCCCCCCC`. -/
  | barEq (n : XReg) (m : XReg) (c : BitVec 16)
  /-- R446 (46_control.md): `BAR 16bitOff,ARn,ARm,NEQ`; encoding `1000111111nnnmmm CCCCCCCCCCCCCCCC`. -/
  | barNeq (n : XReg) (m : XReg) (c : BitVec 16)
  /-- R447 (46_control.md): `XB pma,COND`; encoding `010101101101DDDD CCCCCCCCCCCCCCCC`. -/
  | xb (cond : Cond) (c : BitVec 16)
  /-- R448 (46_control.md): `XBANZ pma,*`; encoding `0101011000001100 CCCCCCCCCCCCCCCC`. -/
  | xbanzInd (c : BitVec 16)
  /-- R448 (46_control.md): `XBANZ pma,*++`; encoding `0101011000001010 CCCCCCCCCCCCCCCC`. -/
  | xbanzIndInc (c : BitVec 16)
  /-- R448 (46_control.md): `XBANZ pma,*--`; encoding `0101011000001011 CCCCCCCCCCCCCCCC`. -/
  | xbanzIndDec (c : BitVec 16)
  /-- R448 (46_control.md): `XBANZ pma,*0++`; encoding `0101011000001110 CCCCCCCCCCCCCCCC`. -/
  | xbanzInd0Inc (c : BitVec 16)
  /-- R448 (46_control.md): `XBANZ pma,*0--`; encoding `0101011000001111 CCCCCCCCCCCCCCCC`. -/
  | xbanzInd0Dec (c : BitVec 16)
  /-- R449 (46_control.md): `XCALL pma,COND`; encoding `010101101110DDDD CCCCCCCCCCCCCCCC`. -/
  | xcall (cond : Cond) (c : BitVec 16)
  /-- R450 (46_control.md): `XRETC COND`; encoding `010101101111DDDD`. -/
  | xretc (cond : Cond)
  /-- R451 (46_control.md): `LCR #22bit`; encoding `0111011001CCCCCC CCCCCCCCCCCCCCCC`. -/
  | lcr (c : BitVec 22)
  /-- R452 (46_control.md): `LRETR`; encoding `0000000000000110`. -/
  | lretr
  /-- R454 (46_control.md): `RPT #8bit`; encoding `11110110CCCCCCCC`. -/
  | rptImm (c : BitVec 8)
  /-- R454 (46_control.md): `RPT loc16`; encoding `11110111LLLLLLLL`. -/
  | rptLoc16 (loc : Loc)
  /-- R455 (46_control.md): `LOOPNZ loc16,#16bit`; encoding `00101110LLLLLLLL CCCCCCCCCCCCCCCC`. -/
  | loopnz (loc : Loc) (c : BitVec 16)
  /-- R456 (46_control.md): `LOOPZ loc16,#16bit`; encoding `00101100LLLLLLLL CCCCCCCCCCCCCCCC`. -/
  | loopz (loc : Loc) (c : BitVec 16)
  /-- R457 (46_control.md): `IDLE`; encoding `0111011000100001`. -/
  | idle
  /-- R458 (46_control.md): `INTR INT1..INT14, DLOGINT, RTOSINT`; encoding `000000000001CCCC`. -/
  | intr (c : BitVec 4)
  /-- R458 (46_control.md): `INTR NMI`; encoding `0111011000010110`. -/
  | intrNmi
  /-- R459 (46_control.md): `TRAP #VectorNumber`; encoding `00000000001CCCCC`. -/
  | trap (c : BitVec 5)
  /-- R460 (46_control.md): `IRET`; encoding `0111011000000010`. -/
  | iret
  /-- R461 (46_control.md): `ABORTI`; encoding `0000000000000001`. -/
  | aborti
  /-- R462 (46_control.md): `IACK #16bit`; encoding `0111011000111111 CCCCCCCCCCCCCCCC`. -/
  | iack (c : BitVec 16)
  /-- R463 (46_control.md): `ESTOP0`; encoding `0111011000100101`. -/
  | estop0
  /-- R464 (46_control.md): `ESTOP1`; encoding `0111011000100100`. -/
  | estop1
deriving DecidableEq, Repr

end Sys2Proof
end

