-- ==== Sys2Proof/WellFormed.lean ====
section
/-! DEFINITION. The instructions an encoding stands for. The operand types already hold every field to its width;
what is left are the operand values whose words are another instruction's (R152: "particular operand values") and
the register range of `MOV ARx,*-SP[6bit]` (R147, R401). -/

namespace Sys2Proof

/-- The number of an auxiliary register, 0 to 7 (R46). -/
def XReg.num : XReg → Nat
  | .xar0 => 0 | .xar1 => 1 | .xar2 => 2 | .xar3 => 3 | .xar4 => 4 | .xar5 => 5 | .xar6 => 6 | .xar7 => 7

/-- The `loc` field that names `@T` or `@XT` (R126). -/
def locT : Loc := 0xAC#8

/-- The `loc` field of the push mode `*SP++` (R126). -/
def locPush : Loc := 0xBD#8

/-- Whether the words of the instruction's fields are this instruction's own. -/
def Instr.wellFormed : Instr → Bool
  -- 0x10AC, 0x11AC and 0x16AC are ADD ACC,P, SUB ACC,P and MOV ACC,P (R236, R237, R239)
  | .mova loc => loc != locT
  | .movs loc => loc != locT
  | .movp loc => loc != locT
  -- 0x20BD is PUSH IER (R421)
  | .movLoc16Ier loc => loc != locPush
  -- "you type a value from 0 to 5" (R401)
  | .movArx n _ => decide (n.num < 6)
  | _ => true

end Sys2Proof
end

