-- ==== Sys2Proof/Decode.lean ====
section
/-! DEFINITION. The decoder and the encoder of the instruction words (R142, R146, R152; every pattern is the opcode
table's), the decoding of the 8-bit `loc` field (R120 to R126), and `decodeTableWord`, which numbers the bits of a
word as the opcode table does. -/

namespace Sys2Proof

/-! ## Operand fields -/

/-- A 3-bit register number (R46, R143). -/
def XReg.ofBits (b : BitVec 3) : XReg :=
  match b with
  | 0#3 => .xar0 | 1#3 => .xar1 | 2#3 => .xar2 | 3#3 => .xar3
  | 4#3 => .xar4 | 5#3 => .xar5 | 6#3 => .xar6 | _ => .xar7

/-- The number of a register as a 3-bit field. -/
def XReg.bits : XReg → BitVec 3
  | .xar0 => 0 | .xar1 => 1 | .xar2 => 2 | .xar3 => 3 | .xar4 => 4 | .xar5 => 5 | .xar6 => 6 | .xar7 => 7

/-- The AX selector: 0 is AL, 1 is AH (R152). -/
def AccHalf.ofBit (b : BitVec 1) : AccHalf := if b = 1#1 then .ah else .al

/-- The AX selector bit. -/
def AccHalf.bit : AccHalf → BitVec 1
  | .al => 0 | .ah => 1

/-- The 4-bit condition codes (R150). -/
def Cond.ofBits (b : BitVec 4) : Cond :=
  match b with
  | 0#4 => .neq | 1#4 => .eq | 2#4 => .gt | 3#4 => .geq | 4#4 => .lt | 5#4 => .leq | 6#4 => .hi | 7#4 => .his
  | 8#4 => .lo | 9#4 => .los | 10#4 => .nov | 11#4 => .ov | 12#4 => .ntc | 13#4 => .tc | 14#4 => .nbio | _ => .unc

/-- The code of a condition (R150). -/
def Cond.bits : Cond → BitVec 4
  | .neq => 0 | .eq => 1 | .gt => 2 | .geq => 3 | .lt => 4 | .leq => 5 | .hi => 6 | .his => 7
  | .lo => 8 | .los => 9 | .nov => 10 | .ov => 11 | .ntc => 12 | .tc => 13 | .nbio => 14 | .unc => 15

/-! ## The `loc` field -/

/-- The register modes of the group `10 10....`, the same under both values of AMODE (R126). -/
def decodeLocReg (f : Loc) : Option LocReg :=
  if f.extractLsb' 3 5 = 0b10100#5 then some (.ar (XReg.ofBits (f.extractLsb' 0 3)))
  else match f with
    | 0xA8#8 => some .ah
    | 0xA9#8 => some .al
    | 0xAA#8 => some .ph
    | 0xAB#8 => some .pl
    | 0xAC#8 => some .t
    | 0xAD#8 => some .sp
    | _ => none

/-- The memory modes of the group `10......` (R126), except the last code of it, the circular mode. -/
def decodeLocMem10 (f : Loc) : MemMode :=
  let n := XReg.ofBits (f.extractLsb' 0 3)
  match f.extractLsb' 3 3 with
  | 0b000#3 => .postInc n
  | 0b001#3 => .preDec n
  | 0b010#3 => .idxAr0 n
  | 0b011#3 => .idxAr1 n
  | 0b110#3 => .setArp n
  | _ =>
    match f with
    | 0xAE#8 => .brInc
    | 0xAF#8 => .brDec
    | 0xB8#8 => .cur
    | 0xB9#8 => .curInc
    | 0xBA#8 => .curDec
    | 0xBB#8 => .cur0Inc
    | 0xBC#8 => .cur0Dec
    | 0xBD#8 => .spInc
    | 0xBE#8 => .spDec
    | _ => .circ

/-- The addressing mode a `loc` field selects (R121, R122, R126). Bits 7:6 choose the group. With AMODE = 1 a field
whose bit 7 is 0 is the 7-bit direct mode, `*+XARn[3bit]` is not available and the circular code is another mode,
whose effect the spec does not give (R126; DEDUCED, log 12: the rest of the group `10......` is read as under
AMODE = 0). PAGE0 = 1 turns `*-SP[6bit]` into the direct mode of data page 0 (R122). -/
def decodeLoc (amode page0 : Bool) (f : Loc) : AddrMode :=
  if f.extractLsb' 7 1 = 0#1 then
    if amode then .mem (.direct7 (f.extractLsb' 0 7))
    else if f.extractLsb' 6 1 = 0#1 then .mem (.direct6 (f.extractLsb' 0 6))
    else if page0 then .mem (.page0 (f.extractLsb' 0 6))
    else .mem (.spRel (f.extractLsb' 0 6))
  else if f.extractLsb' 6 1 = 0#1 then
    match decodeLocReg f with
    | some r => .reg r
    | none => if amode && f == 0xBF#8 then .noEffectGiven else .mem (decodeLocMem10 f)
  else if amode then .noEffectGiven
  else .mem (.idx3 (XReg.ofBits (f.extractLsb' 0 3)) (f.extractLsb' 3 3))

/-- The `loc` field of a memory mode (R126). -/
def MemMode.field : MemMode → Loc
  | .direct6 o => 0b00#2 ++ o
  | .direct7 o => 0b0#1 ++ o
  | .page0 o => 0b01#2 ++ o
  | .spRel o => 0b01#2 ++ o
  | .postInc n => 0b10000#5 ++ n.bits
  | .preDec n => 0b10001#5 ++ n.bits
  | .idxAr0 n => 0b10010#5 ++ n.bits
  | .idxAr1 n => 0b10011#5 ++ n.bits
  | .idx3 n o => 0b11#2 ++ o ++ n.bits
  | .brInc => 0xAE | .brDec => 0xAF
  | .setArp n => 0b10110#5 ++ n.bits
  | .cur => 0xB8 | .curInc => 0xB9 | .curDec => 0xBA | .cur0Inc => 0xBB | .cur0Dec => 0xBC
  | .spInc => 0xBD | .spDec => 0xBE | .circ => 0xBF

/-- The `loc` field of a register mode (R126). -/
def LocReg.field : LocReg → Loc
  | .ar n => 0b10100#5 ++ n.bits
  | .ah => 0xA8 | .al => 0xA9 | .ph => 0xAA | .pl => 0xAB | .t => 0xAC | .sp => 0xAD

/-! ## The decoder -/

/-- The low byte of an instruction word. -/
abbrev lo8 (w : BitVec 16) : BitVec 8 := w.extractLsb' 0 8

/-- The high byte of an instruction word. -/
abbrev hi8 (w : BitVec 16) : BitVec 8 := w.extractLsb' 8 8

/-- What the first word of an instruction says: the whole instruction, or how the second word completes it (R142). -/
inductive Head where
  | one (i : Instr)
  | two (k : BitVec 16 → Option Instr)

/-- A second word `00000000LLLLLLLL`. -/
def second00 (k : Loc → Instr) : Option Head :=
  some (.two fun v => if hi8 v = 0#8 then some (k (lo8 v)) else none)

/-- A second word `0000SSSSLLLLLLLL` or `0000BBBBLLLLLLLL`. -/
def second0F (k : BitVec 4 → Loc → Instr) : Option Head :=
  some (.two fun v => if v.extractLsb' 12 4 = 0#4 then some (k (v.extractLsb' 8 4) (lo8 v)) else none)

/-- A second word `11000111LLLLLLLL` (`*XAR7`) or `10000111LLLLLLLL` (`*XAR7++`). -/
def secondXar7 (k kInc : Loc → Instr) : Option Head :=
  some (.two fun v =>
    if hi8 v = 0xC7#8 then some (k (lo8 v)) else if hi8 v = 0x87#8 then some (kInc (lo8 v)) else none)

/-- First words 0x00xx. -/
def decodePage00 (w : BitVec 16) : Option Head :=
  match lo8 w with
  | 0x01#8 => some (.one .aborti)
  | 0x03#8 => some (.one .popAr1hAr0h)
  | 0x05#8 => some (.one .pushAr1hAr0h)
  | 0x06#8 => some (.one .lretr)
  | _ =>
    if w.extractLsb' 3 5 = 0b00001#5 then some <| .two fun v => some (.banz (XReg.ofBits (w.extractLsb' 0 3)) v)
    else if w.extractLsb' 4 4 = 0b0001#4 then some <| .one (.intr (w.extractLsb' 0 4))
    else if w.extractLsb' 5 3 = 0b001#3 then some <| .one (.trap (w.extractLsb' 0 5))
    else none

/-- First words 0x56xx. -/
def decodePage56 (w : BitVec 16) : Option Head :=
  match lo8 w with
  | 0x00#8 => second0F .subAccLoc16Shl
  | 0x01#8 => second00 .addlLoc32Acc
  | 0x02#8 => second00 .movOvcLoc16
  | 0x03#8 => second0F .movAccLoc16Shl
  | 0x04#8 => second0F .addAccLoc16Shl
  | 0x05#8 => second00 .impyl
  | 0x06#8 => second00 .movAccLoc16ShlT
  | 0x07#8 => secondXar7 .macXar7 .macXar7Inc
  | 0x09#8 => second0F .tclr
  | 0x0A#8 => some <| .two fun v => some (.xbanzIndInc v)
  | 0x0B#8 => some <| .two fun v => some (.xbanzIndDec v)
  | 0x0C#8 => some <| .two fun v => some (.xbanzInd v)
  | 0x0D#8 => second0F .tset
  | 0x0E#8 => some <| .two fun v => some (.xbanzInd0Inc v)
  | 0x0F#8 => some <| .two fun v => some (.xbanzInd0Dec v)
  | 0x10#8 => some (.one .asrlAccT)
  | 0x11#8 => second00 .sqrs
  | 0x15#8 => second00 .sqra
  | 0x16#8 => some (.one .clrcAmode)
  | 0x17#8 => second00 .subcul
  | 0x18#8 => some (.one .cmpr2)
  | 0x19#8 => some (.one .cmpr1)
  | 0x1B#8 => some (.one .clrcXf)
  | 0x1C#8 => some (.one .cmpr3)
  | 0x1D#8 => some (.one .cmpr0)
  | 0x1E#8 => some (.one .setcAmode)
  | 0x1F#8 => some (.one .setcObjmode)
  | 0x20#8 => some (.one .normIndDec)
  | 0x22#8 => some (.one .lsrlAccT)
  | 0x23#8 => second00 .addAccLoc16ShlT
  | 0x24#8 => some (.one .normInd)
  | 0x25#8 => second00 .tbitT
  | 0x26#8 => some (.one .setcXf)
  | 0x27#8 => second00 .subAccLoc16ShlT
  | 0x2A#8 => some <| .two fun v => if (v.extractLsb' 12 4) = 0x0#4 then some (.movLoc16AxCond .al (Cond.ofBits (v.extractLsb' 8 4)) (lo8 v)) else none
  | 0x2B#8 => some <| .two fun v => if (v.extractLsb' 12 4) = 0x0#4 then some (.movLoc16AxCond .ah (Cond.ofBits (v.extractLsb' 8 4)) (lo8 v)) else none
  | 0x2C#8 => some (.one .asr64T)
  | 0x2D#8 => some <| .two fun v => if (v.extractLsb' 11 5) = 0x0#5 then some (.movLoc16AccShl (v.extractLsb' 8 3) (lo8 v)) else none
  | 0x2F#8 => some <| .two fun v => if (v.extractLsb' 11 5) = 0x0#5 then some (.movhLoc16AccShl (v.extractLsb' 8 3) (lo8 v)) else none
  | 0x30#8 => some (.one .normInd0Dec)
  | 0x32#8 => some (.one .negtcAcc)
  | 0x33#8 => some (.one .zapa)
  | 0x35#8 => some (.one .csb)
  | 0x36#8 => some (.one .clrcObjmode)
  | 0x3B#8 => some (.one .lsllAccT)
  | 0x3E#8 => some (.one .sat64AccP)
  | 0x40#8 => some <| .two fun v => some (.addclAcc (lo8 v))
  | 0x41#8 => second00 .sublLoc32Acc
  | 0x43#8 => second00 .impysl
  | 0x45#8 => second00 .qmpysl
  | 0x46#8 => second00 .qmpyal
  | 0x48#8 => some <| .two fun v => if (v.extractLsb' 12 4) = 0x0#4 then some (.movlLoc32AccCond (Cond.ofBits (v.extractLsb' 8 4)) (lo8 v)) else none
  | 0x49#8 => second00 .subrlLoc32Acc
  | 0x4B#8 => secondXar7 .dmacXar7 .dmacXar7Inc
  | 0x4C#8 => second00 .impyal
  | 0x4D#8 => secondXar7 .imaclXar7 .imaclXar7Inc
  | 0x4F#8 => secondXar7 .qmaclXar7 .qmaclXar7Inc
  | 0x50#8 => second00 .minlAcc
  | 0x52#8 => some (.one .lsl64T)
  | 0x53#8 => some <| .two fun v => some (.addulAcc (lo8 v))
  | 0x54#8 => second00 .subblAcc
  | 0x55#8 => second00 .subulAcc
  | 0x57#8 => second00 .addulP
  | 0x58#8 => some (.one .neg64AccP)
  | 0x5A#8 => some (.one .normIndInc)
  | 0x5B#8 => some (.one .lsr64T)
  | 0x5C#8 => some (.one .zapOvc)
  | 0x5D#8 => second00 .subulP
  | 0x5F#8 => some (.one .abstcAcc)
  | 0x61#8 => second00 .maxlAcc
  | 0x62#8 => second00 .movuOvcLoc16
  | 0x65#8 => second00 .impyxul
  | 0x72#8 => second00 (.maxAx .al)
  | 0x73#8 => second00 (.maxAx .ah)
  | 0x74#8 => second00 (.minAx .al)
  | 0x75#8 => second00 (.minAx .ah)
  | 0x77#8 => some (.one .normInd0Inc)
  | _ =>
    if w.extractLsb' 4 4 = 0b1010#4 then some <| .one (.lsl64Imm (w.extractLsb' 0 4))
    else if w.extractLsb' 4 4 = 0b1001#4 then some <| .one (.lsr64Imm (w.extractLsb' 0 4))
    else if w.extractLsb' 4 4 = 0b1000#4 then some <| .one (.asr64Imm (w.extractLsb' 0 4))
    else if w.extractLsb' 4 4 = 0b1011#4 then some <| .two fun v => some (.movbLoc16Cond (Cond.ofBits (w.extractLsb' 0 4)) (hi8 v) (lo8 v))
    else if w.extractLsb' 4 4 = 0b1100#4 then some <| .two fun v => some (.bf (Cond.ofBits (w.extractLsb' 0 4)) v)
    else if w.extractLsb' 4 4 = 0b1101#4 then some <| .two fun v => some (.xb (Cond.ofBits (w.extractLsb' 0 4)) v)
    else if w.extractLsb' 4 4 = 0b1110#4 then some <| .two fun v => some (.xcall (Cond.ofBits (w.extractLsb' 0 4)) v)
    else if w.extractLsb' 4 4 = 0b1111#4 then some <| .one (.xretc (Cond.ofBits (w.extractLsb' 0 4)))
    else none

/-- First words 0x76xx. -/
def decodePage76 (w : BitVec 16) : Option Head :=
  match lo8 w with
  | 0x00#8 => some (.one .popSt1)
  | 0x02#8 => some (.one .iret)
  | 0x08#8 => some (.one .pushSt1)
  | 0x0A#8 => some (.one .pushIfr)
  | 0x0E#8 => some (.one .pushDbgier)
  | 0x12#8 => some (.one .popDbgier)
  | 0x13#8 => some (.one .popSt0)
  | 0x16#8 => some (.one .intrNmi)
  | 0x17#8 => some (.one .nasp)
  | 0x18#8 => some (.one .pushSt0)
  | 0x1A#8 => some (.one .edis)
  | 0x1B#8 => some (.one .asp)
  | 0x21#8 => some (.one .idle)
  | 0x22#8 => some (.one .eallow)
  | 0x23#8 => some <| .two fun v => some (.orIer v)
  | 0x24#8 => some (.one .estop1)
  | 0x25#8 => some (.one .estop0)
  | 0x26#8 => some <| .two fun v => some (.andIer v)
  | 0x27#8 => some <| .two fun v => some (.orIfr v)
  | 0x2F#8 => some <| .two fun v => some (.andIfr v)
  | 0x3F#8 => some <| .two fun v => some (.iack v)
  | _ =>
    if w.extractLsb' 6 2 = 0b01#2 then some <| .two fun v => some (.lcr ((w.extractLsb' 0 6) ++ v))
    else none

/-- First words 0x8Fxx. -/
def decodePage8F (w : BitVec 16) : Option Head :=
  if w.extractLsb' 6 2 = 0b10#2 then
    some <| .two fun v => some (.barEq (XReg.ofBits (w.extractLsb' 3 3)) (XReg.ofBits (w.extractLsb' 0 3)) v)
  else if w.extractLsb' 6 2 = 0b11#2 then
    some <| .two fun v => some (.barNeq (XReg.ofBits (w.extractLsb' 3 3)) (XReg.ofBits (w.extractLsb' 0 3)) v)
  else none

/-- First words 0xFFxx. -/
def decodePageFF (w : BitVec 16) : Option Head :=
  match lo8 w with
  | 0x50#8 => some (.one .lslAccT)
  | 0x51#8 => some (.one .sfrAccT)
  | 0x52#8 => some (.one .rorAcc)
  | 0x53#8 => some (.one .rolAcc)
  | 0x54#8 => some (.one .negAcc)
  | 0x56#8 => some (.one .absAcc)
  | 0x57#8 => some (.one .satAcc)
  | 0x58#8 => some (.one .testAcc)
  | 0x59#8 => some (.one .cmplAccP)
  | 0x5C#8 => some (.one (.negAx .al))
  | 0x5D#8 => some (.one (.negAx .ah))
  | 0x62#8 => some (.one (.lsrAxT .al))
  | 0x63#8 => some (.one (.lsrAxT .ah))
  | 0x64#8 => some (.one (.asrAxT .al))
  | 0x65#8 => some (.one (.asrAxT .ah))
  | 0x66#8 => some (.one (.lslAxT .al))
  | 0x67#8 => some (.one (.lslAxT .ah))
  | _ =>
    if w.extractLsb' 3 5 = 0b01101#5 then some <| .one (.spm (w.extractLsb' 0 3))
    else if w.extractLsb' 4 4 = 0b0001#4 then some <| .two fun v => some (.addAccImmShl (w.extractLsb' 0 4) v)
    else if w.extractLsb' 4 4 = 0b0000#4 then some <| .two fun v => some (.subAccImmShl (w.extractLsb' 0 4) v)
    else if w.extractLsb' 3 5 = 0b01111#5 then some <| .one (.normXarInc (XReg.ofBits (w.extractLsb' 0 3)))
    else if w.extractLsb' 3 5 = 0b01110#5 then some <| .one (.normXarDec (XReg.ofBits (w.extractLsb' 0 3)))
    else if w.extractLsb' 4 4 = 0b0011#4 then some <| .one (.lslAccImm (w.extractLsb' 0 4))
    else if w.extractLsb' 4 4 = 0b0100#4 then some <| .one (.sfrAccImm (w.extractLsb' 0 4))
    else if w.extractLsb' 5 3 = 0b100#3 then some <| .one (.lslAxImm (AccHalf.ofBit (w.extractLsb' 4 1)) (w.extractLsb' 0 4))
    else if w.extractLsb' 5 3 = 0b110#3 then some <| .one (.lsrAxImm (AccHalf.ofBit (w.extractLsb' 4 1)) (w.extractLsb' 0 4))
    else if w.extractLsb' 5 3 = 0b101#3 then some <| .one (.asrAxImm (AccHalf.ofBit (w.extractLsb' 4 1)) (w.extractLsb' 0 4))
    else if w.extractLsb' 4 4 = 0b0010#4 then some <| .two fun v => some (.movAccImmShl (w.extractLsb' 0 4) v)
    else if w.extractLsb' 4 4 = 0b1110#4 then some <| .two fun v => some (.b (Cond.ofBits (w.extractLsb' 0 4)) v)
    else none

/-- The first word of an instruction: it determines the length (R142). `none`: no row of the table fits (R146, D10). -/
def decodeHead (w : BitVec 16) : Option Head :=
  match hi8 w with
  | 0x00#8 => decodePage00 w
  | 0x01#8 => some <| .one (.subuAcc (lo8 w))
  | 0x03#8 => some <| .one (.sublAcc (lo8 w))
  | 0x04#8 => some <| .one (.subAccLoc16Shl16 (lo8 w))
  | 0x05#8 => some <| .one (.addAccLoc16Shl16 (lo8 w))
  | 0x07#8 => some <| .one (.addlAcc (lo8 w))
  | 0x08#8 => some <| .two fun v => some (.addLoc16Imm (lo8 w) v)
  | 0x09#8 => some <| .one (.addbAcc (lo8 w))
  | 0x0A#8 => some <| .one (.incLoc16 (lo8 w))
  | 0x0B#8 => some <| .one (.decLoc16 (lo8 w))
  | 0x0C#8 => some <| .one (.addcuAcc (lo8 w))
  | 0x0D#8 => some <| .one (.adduAcc (lo8 w))
  | 0x0F#8 => some <| .one (.cmplAcc (lo8 w))
  | 0x10#8 => if lo8 w = 0xAC#8 then some (.one .addAccP) else some <| .one (.mova (lo8 w))
  | 0x11#8 => if lo8 w = 0xAC#8 then some (.one .subAccP) else some <| .one (.movs (lo8 w))
  | 0x12#8 => some <| .one (.mpyAccT (lo8 w))
  | 0x13#8 => some <| .one (.mpysPT (lo8 w))
  | 0x14#8 => some <| .two fun v => some (.macPma (lo8 w) v)
  | 0x15#8 => some <| .two fun v => some (.mpyaPImm (lo8 w) v)
  | 0x16#8 => if lo8 w = 0xAC#8 then some (.one .movAccP) else some <| .one (.movp (lo8 w))
  | 0x17#8 => some <| .one (.mpyaPT (lo8 w))
  | 0x19#8 => some <| .one (.subbAcc (lo8 w))
  | 0x1B#8 => some <| .two fun v => some (.cmpLoc16Imm (lo8 w) v)
  | 0x1D#8 => some <| .one (.sbbuAcc (lo8 w))
  | 0x1F#8 => some <| .one (.subcu (lo8 w))
  | 0x20#8 => if lo8 w = 0xBD#8 then some (.one .pushIer) else some <| .one (.movLoc16Ier (lo8 w))
  | 0x23#8 => some <| .one (.movIerLoc16 (lo8 w))
  | 0x24#8 => some <| .one (.pread (lo8 w))
  | 0x25#8 => some <| .one (.movAccLoc16Shl16 (lo8 w))
  | 0x26#8 => some <| .one (.pwrite (lo8 w))
  | 0x29#8 => some <| .one (.clrcMode (lo8 w))
  | 0x2C#8 => some <| .two fun v => some (.loopz (lo8 w) v)
  | 0x2E#8 => some <| .two fun v => some (.loopnz (lo8 w) v)
  | 0x33#8 => some <| .one (.mpyPT (lo8 w))
  | 0x34#8 => some <| .two fun v => some (.mpyAccImm (lo8 w) v)
  | 0x3A#8 => if lo8 w = 0xBD#8 then some (.one .pushXar0) else none
  | 0x3B#8 => some <| .one (.setcMode (lo8 w))
  | 0x3F#8 => some <| .one (.movLoc16P (lo8 w))
  | 0x52#8 => some <| .one (.cmpbAx .al (lo8 w))
  | 0x53#8 => some <| .one (.cmpbAx .ah (lo8 w))
  | 0x54#8 => some <| .one (.cmpAxLoc16 .al (lo8 w))
  | 0x55#8 => some <| .one (.cmpAxLoc16 .ah (lo8 w))
  | 0x56#8 => decodePage56 w
  | 0x57#8 => some <| .one (.movhLoc16P (lo8 w))
  | 0x72#8 => some <| .one (.addLoc16Ax .al (lo8 w))
  | 0x73#8 => some <| .one (.addLoc16Ax .ah (lo8 w))
  | 0x74#8 => some <| .one (.subLoc16Ax .al (lo8 w))
  | 0x75#8 => some <| .one (.subLoc16Ax .ah (lo8 w))
  | 0x76#8 => decodePage76 w
  | 0x81#8 => some <| .one (.addAccLoc16 (lo8 w))
  | 0x82#8 => if lo8 w = 0xBE#8 then some (.one .popXar3) else none
  | 0x83#8 => if lo8 w = 0xBE#8 then some (.one .popXar5) else none
  | 0x84#8 => some <| .two fun v => some (.xmac (lo8 w) v)
  | 0x85#8 => some <| .one (.movAccLoc16 (lo8 w))
  | 0x86#8 => if lo8 w = 0xBE#8 then some (.one .popXar2) else none
  | 0x87#8 => if lo8 w = 0xBE#8 then some (.one .popXt) else none
  | 0x8A#8 => if lo8 w = 0xBE#8 then some (.one .popXar4) else none
  | 0x8B#8 => if lo8 w = 0xBE#8 then some (.one .popXar1) else none
  | 0x8C#8 => some <| .two fun v => some (.mpyPImm (lo8 w) v)
  | 0x8E#8 => if lo8 w = 0xBE#8 then some (.one .popXar0) else none
  | 0x8F#8 => decodePage8F w
  | 0x94#8 => some <| .one (.addAxLoc16 .al (lo8 w))
  | 0x95#8 => some <| .one (.addAxLoc16 .ah (lo8 w))
  | 0x9C#8 => some <| .one (.addbAx .al (lo8 w))
  | 0x9D#8 => some <| .one (.addbAx .ah (lo8 w))
  | 0x9E#8 => some <| .one (.subAxLoc16 .al (lo8 w))
  | 0x9F#8 => some <| .one (.subAxLoc16 .ah (lo8 w))
  | 0xA0#8 => if lo8 w = 0xBD#8 then some (.one .pushXar5) else none
  | 0xA2#8 => if lo8 w = 0xBD#8 then some (.one .pushXar3) else none
  | 0xA4#8 => some <| .two fun v => some (.xmacd (lo8 w) v)
  | 0xA7#8 => some <| .one (.movad (lo8 w))
  | 0xA8#8 => if lo8 w = 0xBD#8 then some (.one .pushXar4) else none
  | 0xAA#8 => if lo8 w = 0xBD#8 then some (.one .pushXar2) else none
  | 0xAB#8 => if lo8 w = 0xBD#8 then some (.one .pushXt) else none
  | 0xAE#8 => some <| .one (.subAccLoc16 (lo8 w))
  | 0xB1#8 => some <| .one (.movLoc16AccShl1 (lo8 w))
  | 0xB2#8 => if lo8 w = 0xBD#8 then some (.one .pushXar1) else none
  | 0xB3#8 => some <| .one (.movhLoc16AccShl1 (lo8 w))
  | 0xC2#8 => if lo8 w = 0xBD#8 then some (.one .pushXar6) else none
  | 0xC3#8 => if lo8 w = 0xBD#8 then some (.one .pushXar7) else none
  | 0xC4#8 => if lo8 w = 0xBE#8 then some (.one .popXar6) else none
  | 0xC5#8 => if lo8 w = 0xBE#8 then some (.one .popXar7) else none
  | 0xEA#8 => some <| .one (.subrLoc16Ax .al (lo8 w))
  | 0xEB#8 => some <| .one (.subrLoc16Ax .ah (lo8 w))
  | 0xEC#8 => some <| .one (.sbfEq (lo8 w))
  | 0xED#8 => some <| .one (.sbfNeq (lo8 w))
  | 0xEE#8 => some <| .one (.sbfTc (lo8 w))
  | 0xEF#8 => some <| .one (.sbfNtc (lo8 w))
  | 0xF6#8 => some <| .one (.rptImm (lo8 w))
  | 0xF7#8 => some <| .one (.rptLoc16 (lo8 w))
  | 0xFF#8 => decodePageFF w
  | _ =>
    if w.extractLsb' 12 4 = 0b0100#4 then some (.one (.tbitImm (w.extractLsb' 8 4) (lo8 w)))
    else if w.extractLsb' 11 5 = 0b01011#5 ∧ (XReg.ofBits (w.extractLsb' 8 3)).num < 6 then some (.one (.movArx (XReg.ofBits (w.extractLsb' 8 3)) (lo8 w)))
    else if w.extractLsb' 11 5 = 0b11010#5 then some (.one (.movbAr (XReg.ofBits (w.extractLsb' 8 3)) (lo8 w)))
    else if w.extractLsb' 12 4 = 0b0110#4 then some (.one (.sb (Cond.ofBits (w.extractLsb' 8 4)) (lo8 w)))
    else none

/-- Why a list of words is not an instruction. -/
inductive DecodeError where
  /-- There is no word. -/
  | noWord
  /-- The first word 0x0000 or 0xFFFF: the illegal instructions ITRAP0 and ITRAP1 (R142, R537). -/
  | illegalInstruction (w : BitVec 16)
  /-- The first word calls for a second one, and there is none. -/
  | secondWordMissing (w : BitVec 16)
  /-- No row of the opcode table fits the first word (R146, D10). -/
  | unlistedWord (w : BitVec 16)
  /-- Rows of the table fit the first word, and none of them fits the second (R146, D10). -/
  | unlistedSecondWord (w v : BitVec 16)
deriving DecidableEq, Repr

/-- Whether a word is one of the two illegal instructions (R142, R146, R537). -/
def isIllegalWord (w : BitVec 16) : Bool := w == 0x0000#16 || w == 0xFFFF#16

/-- Decoding is total on words: the instruction at the front of the list and the words after it, or the reason why
there is none. -/
def decode (ws : List (BitVec 16)) : Except DecodeError (Instr × List (BitVec 16)) :=
  match ws with
  | [] => .error .noWord
  | w :: rest =>
    if isIllegalWord w then .error (.illegalInstruction w)
    else match decodeHead w with
      | none => .error (.unlistedWord w)
      | some (.one i) => .ok (i, rest)
      | some (.two k) =>
        match rest with
        | [] => .error (.secondWordMissing w)
        | v :: rest' =>
          match k v with
          | some i => .ok (i, rest')
          | none => .error (.unlistedSecondWord w v)

/-! ## The encoder -/

/-- The words of an instruction, the first at the lower address (R110, R152). A bit the CPU ignores is 0. -/
def encode (i : Instr) : List (BitVec 16) :=
  match i with
  | .setcMode c => [0x3B#8 ++ c]
  | .clrcMode c => [0x29#8 ++ c]
  | .setcXf => [0x5626#16]
  | .clrcXf => [0x561B#16]
  | .setcObjmode => [0x561F#16]
  | .clrcObjmode => [0x5636#16]
  | .setcAmode => [0x561E#16]
  | .clrcAmode => [0x5616#16]
  | .eallow => [0x7622#16]
  | .edis => [0x761A#16]
  | .asp => [0x761B#16]
  | .nasp => [0x7617#16]
  | .zapOvc => [0x565C#16]
  | .movOvcLoc16 loc => [0x5602#16, 0x0#8 ++ loc]
  | .movuOvcLoc16 loc => [0x5662#16, 0x0#8 ++ loc]
  | .spm pm => [0x1FED#13 ++ pm]
  | .addAccLoc16 loc => [0x81#8 ++ loc]
  | .addAccLoc16Shl sh loc => [0x5604#16, 0x0#4 ++ sh ++ loc]
  | .addAccLoc16Shl16 loc => [0x5#8 ++ loc]
  | .addAccImmShl sh c => [0xFF1#12 ++ sh, c]
  | .addAccLoc16ShlT loc => [0x5623#16, 0x0#8 ++ loc]
  | .addbAcc c => [0x9#8 ++ c]
  | .addclAcc loc => [0x5640#16, 0#8 ++ loc]
  | .addcuAcc loc => [0xC#8 ++ loc]
  | .addlAcc loc => [0x7#8 ++ loc]
  | .addlLoc32Acc loc => [0x5601#16, 0x0#8 ++ loc]
  | .adduAcc loc => [0xD#8 ++ loc]
  | .addulAcc loc => [0x5653#16, 0#8 ++ loc]
  | .addulP loc => [0x5657#16, 0x0#8 ++ loc]
  | .subAccLoc16 loc => [0xAE#8 ++ loc]
  | .subAccLoc16Shl sh loc => [0x5600#16, 0x0#4 ++ sh ++ loc]
  | .subAccLoc16Shl16 loc => [0x4#8 ++ loc]
  | .subAccImmShl sh c => [0xFF0#12 ++ sh, c]
  | .subAccLoc16ShlT loc => [0x5627#16, 0x0#8 ++ loc]
  | .subbAcc c => [0x19#8 ++ c]
  | .subblAcc loc => [0x5654#16, 0x0#8 ++ loc]
  | .sbbuAcc loc => [0x1D#8 ++ loc]
  | .sublAcc loc => [0x3#8 ++ loc]
  | .sublLoc32Acc loc => [0x5641#16, 0x0#8 ++ loc]
  | .subrlLoc32Acc loc => [0x5649#16, 0x0#8 ++ loc]
  | .subuAcc loc => [0x1#8 ++ loc]
  | .subulAcc loc => [0x5655#16, 0x0#8 ++ loc]
  | .subulP loc => [0x565D#16, 0x0#8 ++ loc]
  | .cmplAcc loc => [0xF#8 ++ loc]
  | .addAccP => [0x10AC#16]
  | .subAccP => [0x11AC#16]
  | .cmplAccP => [0xFF59#16]
  | .movAccP => [0x16AC#16]
  | .maxlAcc loc => [0x5661#16, 0x0#8 ++ loc]
  | .minlAcc loc => [0x5650#16, 0x0#8 ++ loc]
  | .absAcc => [0xFF56#16]
  | .abstcAcc => [0x565F#16]
  | .negAcc => [0xFF54#16]
  | .negtcAcc => [0x5632#16]
  | .neg64AccP => [0x5658#16]
  | .satAcc => [0xFF57#16]
  | .sat64AccP => [0x563E#16]
  | .testAcc => [0xFF58#16]
  | .zapa => [0x5633#16]
  | .subcu loc => [0x1F#8 ++ loc]
  | .subcul loc => [0x5617#16, 0x0#8 ++ loc]
  | .normXarInc n => [0x1FEF#13 ++ n.bits]
  | .normXarDec n => [0x1FEE#13 ++ n.bits]
  | .normInd => [0x5624#16]
  | .normIndInc => [0x565A#16]
  | .normIndDec => [0x5620#16]
  | .normInd0Inc => [0x5677#16]
  | .normInd0Dec => [0x5630#16]
  | .csb => [0x5635#16]
  | .addAxLoc16 ax loc => [0x4A#7 ++ ax.bit ++ loc]
  | .addLoc16Ax ax loc => [0x39#7 ++ ax.bit ++ loc]
  | .addLoc16Imm loc c => [0x8#8 ++ loc, c]
  | .addbAx ax c => [0x4E#7 ++ ax.bit ++ c]
  | .subAxLoc16 ax loc => [0x4F#7 ++ ax.bit ++ loc]
  | .subLoc16Ax ax loc => [0x3A#7 ++ ax.bit ++ loc]
  | .subrLoc16Ax ax loc => [0x75#7 ++ ax.bit ++ loc]
  | .incLoc16 loc => [0xA#8 ++ loc]
  | .decLoc16 loc => [0xB#8 ++ loc]
  | .cmpAxLoc16 ax loc => [0x2A#7 ++ ax.bit ++ loc]
  | .cmpLoc16Imm loc c => [0x1B#8 ++ loc, c]
  | .cmpbAx ax c => [0x29#7 ++ ax.bit ++ c]
  | .maxAx ax loc => [0x2B39#15 ++ ax.bit, 0x0#8 ++ loc]
  | .minAx ax loc => [0x2B3A#15 ++ ax.bit, 0x0#8 ++ loc]
  | .negAx ax => [0x7FAE#15 ++ ax.bit]
  | .tbitImm b loc => [0x4#4 ++ b ++ loc]
  | .tbitT loc => [0x5625#16, 0x0#8 ++ loc]
  | .tclr b loc => [0x5609#16, 0x0#4 ++ b ++ loc]
  | .tset b loc => [0x560D#16, 0x0#4 ++ b ++ loc]
  | .cmpr0 => [0x561D#16]
  | .cmpr1 => [0x5619#16]
  | .cmpr2 => [0x5618#16]
  | .cmpr3 => [0x561C#16]
  | .lslAccImm sh => [0xFF3#12 ++ sh]
  | .lslAccT => [0xFF50#16]
  | .lsllAccT => [0x563B#16]
  | .sfrAccImm sh => [0xFF4#12 ++ sh]
  | .sfrAccT => [0xFF51#16]
  | .lsrlAccT => [0x5622#16]
  | .asrlAccT => [0x5610#16]
  | .rolAcc => [0xFF53#16]
  | .rorAcc => [0xFF52#16]
  | .lslAxImm ax sh => [0x7FC#11 ++ ax.bit ++ sh]
  | .lslAxT ax => [0x7FB3#15 ++ ax.bit]
  | .lsrAxImm ax sh => [0x7FE#11 ++ ax.bit ++ sh]
  | .lsrAxT ax => [0x7FB1#15 ++ ax.bit]
  | .asrAxImm ax sh => [0x7FD#11 ++ ax.bit ++ sh]
  | .asrAxT ax => [0x7FB2#15 ++ ax.bit]
  | .lsl64Imm sh => [0x56A#12 ++ sh]
  | .lsl64T => [0x5652#16]
  | .lsr64Imm sh => [0x569#12 ++ sh]
  | .lsr64T => [0x565B#16]
  | .asr64Imm sh => [0x568#12 ++ sh]
  | .asr64T => [0x562C#16]
  | .mova loc => [0x10#8 ++ loc]
  | .movad loc => [0xA7#8 ++ loc]
  | .movp loc => [0x16#8 ++ loc]
  | .movs loc => [0x11#8 ++ loc]
  | .mpyPT loc => [0x33#8 ++ loc]
  | .mpyPImm loc c => [0x8C#8 ++ loc, c]
  | .mpyAccT loc => [0x12#8 ++ loc]
  | .mpyAccImm loc c => [0x34#8 ++ loc, c]
  | .mpyaPImm loc c => [0x15#8 ++ loc, c]
  | .mpyaPT loc => [0x17#8 ++ loc]
  | .mpysPT loc => [0x13#8 ++ loc]
  | .sqra loc => [0x5615#16, 0x0#8 ++ loc]
  | .sqrs loc => [0x5611#16, 0x0#8 ++ loc]
  | .macPma loc c => [0x14#8 ++ loc, c]
  | .macXar7 loc => [0x5607#16, 0xC7#8 ++ loc]
  | .macXar7Inc loc => [0x5607#16, 0x87#8 ++ loc]
  | .dmacXar7 loc => [0x564B#16, 0xC7#8 ++ loc]
  | .dmacXar7Inc loc => [0x564B#16, 0x87#8 ++ loc]
  | .impyl loc => [0x5605#16, 0x0#8 ++ loc]
  | .impyal loc => [0x564C#16, 0x0#8 ++ loc]
  | .impysl loc => [0x5643#16, 0x0#8 ++ loc]
  | .impyxul loc => [0x5665#16, 0x0#8 ++ loc]
  | .imaclXar7 loc => [0x564D#16, 0xC7#8 ++ loc]
  | .imaclXar7Inc loc => [0x564D#16, 0x87#8 ++ loc]
  | .xmac loc c => [0x84#8 ++ loc, c]
  | .xmacd loc c => [0xA4#8 ++ loc, c]
  | .qmpyal loc => [0x5646#16, 0x0#8 ++ loc]
  | .qmpysl loc => [0x5645#16, 0x0#8 ++ loc]
  | .qmaclXar7 loc => [0x564F#16, 0xC7#8 ++ loc]
  | .qmaclXar7Inc loc => [0x564F#16, 0x87#8 ++ loc]
  | .movAccLoc16 loc => [0x85#8 ++ loc]
  | .movAccLoc16Shl sh loc => [0x5603#16, 0x0#4 ++ sh ++ loc]
  | .movAccLoc16Shl16 loc => [0x25#8 ++ loc]
  | .movAccImmShl sh c => [0xFF2#12 ++ sh, c]
  | .movAccLoc16ShlT loc => [0x5606#16, 0x0#8 ++ loc]
  | .movLoc16AccShl1 loc => [0xB1#8 ++ loc]
  | .movLoc16AccShl sh loc => [0x562D#16, 0x0#5 ++ sh ++ loc]
  | .movhLoc16AccShl1 loc => [0xB3#8 ++ loc]
  | .movhLoc16AccShl sh loc => [0x562F#16, 0x0#5 ++ sh ++ loc]
  | .movLoc16P loc => [0x3F#8 ++ loc]
  | .movhLoc16P loc => [0x57#8 ++ loc]
  | .movLoc16AxCond ax cond loc => [0x2B15#15 ++ ax.bit, 0x0#4 ++ cond.bits ++ loc]
  | .movbLoc16Cond cond c loc => [0x56B#12 ++ cond.bits, c ++ loc]
  | .movlLoc32AccCond cond loc => [0x5648#16, 0x0#4 ++ cond.bits ++ loc]
  | .movArx n loc => [0xB#5 ++ n.bits ++ loc]
  | .movbAr n c => [0x1A#5 ++ n.bits ++ c]
  | .movLoc16Ier loc => [0x20#8 ++ loc]
  | .movIerLoc16 loc => [0x23#8 ++ loc]
  | .orIer c => [0x7623#16, c]
  | .andIer c => [0x7626#16, c]
  | .orIfr c => [0x7627#16, c]
  | .andIfr c => [0x762F#16, c]
  | .pushIfr => [0x760A#16]
  | .pushDbgier => [0x760E#16]
  | .popDbgier => [0x7612#16]
  | .pushXar0 => [0x3ABD#16]
  | .pushXar1 => [0xB2BD#16]
  | .pushXar2 => [0xAABD#16]
  | .pushXar3 => [0xA2BD#16]
  | .pushXar4 => [0xA8BD#16]
  | .pushXar5 => [0xA0BD#16]
  | .pushXar6 => [0xC2BD#16]
  | .pushXar7 => [0xC3BD#16]
  | .popXar0 => [0x8EBE#16]
  | .popXar1 => [0x8BBE#16]
  | .popXar2 => [0x86BE#16]
  | .popXar3 => [0x82BE#16]
  | .popXar4 => [0x8ABE#16]
  | .popXar5 => [0x83BE#16]
  | .popXar6 => [0xC4BE#16]
  | .popXar7 => [0xC5BE#16]
  | .pushXt => [0xABBD#16]
  | .popXt => [0x87BE#16]
  | .pushAr1hAr0h => [0x5#16]
  | .popAr1hAr0h => [0x3#16]
  | .pushSt0 => [0x7618#16]
  | .popSt0 => [0x7613#16]
  | .pushSt1 => [0x7608#16]
  | .popSt1 => [0x7600#16]
  | .pread loc => [0x24#8 ++ loc]
  | .pushIer => [0x20BD#16]
  | .pwrite loc => [0x26#8 ++ loc]
  | .b cond c => [0xFFE#12 ++ cond.bits, c]
  | .bf cond c => [0x56C#12 ++ cond.bits, c]
  | .sb cond c => [0x6#4 ++ cond.bits ++ c]
  | .sbfEq c => [0xEC#8 ++ c]
  | .sbfNeq c => [0xED#8 ++ c]
  | .sbfTc c => [0xEE#8 ++ c]
  | .sbfNtc c => [0xEF#8 ++ c]
  | .banz n c => [0x1#13 ++ n.bits, c]
  | .barEq n m c => [0x23E#10 ++ n.bits ++ m.bits, c]
  | .barNeq n m c => [0x23F#10 ++ n.bits ++ m.bits, c]
  | .xb cond c => [0x56D#12 ++ cond.bits, c]
  | .xbanzInd c => [0x560C#16, c]
  | .xbanzIndInc c => [0x560A#16, c]
  | .xbanzIndDec c => [0x560B#16, c]
  | .xbanzInd0Inc c => [0x560E#16, c]
  | .xbanzInd0Dec c => [0x560F#16, c]
  | .xcall cond c => [0x56E#12 ++ cond.bits, c]
  | .xretc cond => [0x56F#12 ++ cond.bits]
  | .lcr c => [0x1D9#10 ++ c.extractLsb' 16 6, c.extractLsb' 0 16]
  | .lretr => [0x6#16]
  | .rptImm c => [0xF6#8 ++ c]
  | .rptLoc16 loc => [0xF7#8 ++ loc]
  | .loopnz loc c => [0x2E#8 ++ loc, c]
  | .loopz loc c => [0x2C#8 ++ loc, c]
  | .idle => [0x7621#16]
  | .intr c => [0x1#12 ++ c]
  | .intrNmi => [0x7616#16]
  | .trap c => [0x1#11 ++ c]
  | .iret => [0x7602#16]
  | .aborti => [0x1#16]
  | .iack c => [0x763F#16, c]
  | .estop0 => [0x7625#16]
  | .estop1 => [0x7624#16]

/-- How many words an instruction has: 1 or 2 (R140). -/
def Instr.words (i : Instr) : Nat := (encode i).length

/-! ## The opcode table's numbering of bits -/

/-- The two words of a table word of `nbits` bits, the word at the lower address first. The table's own `match` values
number a two-word row with the FIRST word in bits 31:16; the other reading has it in bits 15:0. A row of 32 bits is
read with its first word high where that is an instruction, else with its first word low (DESIGN CHOICE, log 7). -/
def tableWords (nbits w : Nat) : List (BitVec 16) :=
  let lo := BitVec.ofNat 16 w
  let hi := BitVec.ofNat 16 (w / 65536)
  if nbits ≤ 16 then [lo, 0#16]
  else
    match decode [hi, lo] with
    | .ok (_, []) => [hi, lo]
    | _ => [lo, hi]

/-- The instruction the decoder reads from an instruction whose bits are `w`, as the opcode table numbers them. -/
def decodeTableWord (nbits w : Nat) : Option Instr :=
  match decode (tableWords nbits w) with
  | .ok (i, _) => some i
  | .error _ => none

end Sys2Proof
end

