-- ==== Sys2Proof/Config.lean ====
section
/-! DEFINITION. What an implementation of the CPU fixes: the parameters R6 names, each at the default the spec gives
it (93_implementation_defined.md), and what memory that nothing has written reads as. -/

namespace Sys2Proof.Config

/-- The VMAP input signal, sampled into ST1.VMAP by a reset: tied high (R6, R58, U22). -/
def vmapPin : Bool := true

/-- The MOM1MAP input signal, sampled into ST1.M0M1MAP by a reset: tied high (R6, R48, U22). -/
def m0m1mapPin : Bool := true

/-- Which sense V has after MAX, MAXL, MIN and MINL (R240, U17, D14). -/
inductive MinMaxSense where
  /-- Table 2-6: V is set when (register - operand) is positive for MAX, negative for MIN. -/
  | asTable26
  /-- V is set when the register is replaced. -/
  | onReplace
deriving DecidableEq, Repr

/-- The parameter `minmax_v_sense`; the default is the table (R240, U17). -/
def minmaxVSense : MinMaxSense := .asTable26

/-- The parameter `ovc_counts_mem16_overflow`; the default is that a 16-bit memory result leaves OVC alone
(R31, U16, conflict C4). -/
def ovcCountsMem16Overflow : Bool := false

/-- The parameter `itrap_return_offset`: what the illegal-instruction trap adds to the pc for its return address;
the default is 1 (R537, U26, D16). -/
def itrapReturnOffset : BitVec 22 := 1

/-- What RPT does before an instruction that is not repeatable (R151, U5). -/
inductive RptNonrepeatable where
  /-- RPTC is cleared and the instruction executes once. -/
  | once
  /-- The instruction is repeated like a repeatable one. -/
  | repeats
deriving DecidableEq, Repr

/-- The parameter `rpt_nonrepeatable`, at its default (R151, U5). -/
def rptNonrepeatable : RptNonrepeatable := .once

/-- The part of the parameter `MemMap` that says where no memory is: ranges of data-space addresses, both ends
included, that hold neither memory nor a peripheral (R6, R106). DESIGN CHOICE (log 4): none, so the whole of data
space holds memory but for the emulation registers. -/
def dataHoles : List (Nat × Nat) := []

/-- The same for program space (R6, R106). DESIGN CHOICE (log 4): none. -/
def progHoles : List (Nat × Nat) := []

/-- The parameter `ProtectedRegs`: ranges of data-space addresses whose access needs EALLOW = 1; the default is
empty (R6, R55, U3). -/
def protectedRegs : List (Nat × Nat) := []

/-- The parameter `pie_present`: whether a PIE block replaces the vector fetch. The default is that there is none; with
one the fetch of a vector is refused (R6, U23; log 38). -/
def piePresent : Bool := false

/-- The parameter `emulator_attached`: the default is that there is none; with one no step is described (R545, D5, U24;
log 38). -/
def emulatorAttached : Bool := false

/-- The parameter that holds the opaque content of DBGSTAT, constant while no emulator is attached: the default is 0
(R6, R66, D5, U6; log 5). -/
def dbgstat : BitVec 16 := 0

/-- What a byte that memory does not list reads as. DESIGN CHOICE (log 2): zero. The content of memory at power-up is
any value (R583, U7): it is the argument of `Machine.State.powerUp`, and memory can list any content. -/
def unwrittenByte : Byte := 0

/-- Whether a word address lies in one of the ranges. -/
def inRanges (a : Nat) : List (Nat × Nat) → Bool
  | [] => false
  | (lo, hi) :: rest => (decide (lo ≤ a) && decide (a ≤ hi)) || inRanges a rest

end Sys2Proof.Config
end

