-- ==== Sys2Proof/Machine/State.lean ====
section
/-! DEFINITION. The state of the CPU as plain data, the reasons a step can stop, and the state right after reset
(10_state.md; the list with every field's rule and reset value is INVENTORY.md, State). -/

namespace Sys2Proof.Machine

/-- The eight auxiliary registers XAR0 to XAR7, 32 bits each (R26). -/
structure XarFile where
  x0 : Long
  x1 : Long
  x2 : Long
  x3 : Long
  x4 : Long
  x5 : Long
  x6 : Long
  x7 : Long
deriving DecidableEq, Repr

/-- Status register ST0 by fields (R29 to R39). -/
structure St0 where
  /-- The overflow counter OVC, read unsigned as OVCU (R30). -/
  ovc : BitVec 6
  /-- The product shift mode (R32). -/
  pm : BitVec 3
  /-- The overflow flag (R33). -/
  v : Bool
  /-- The negative flag (R34). -/
  n : Bool
  /-- The zero flag (R35). -/
  z : Bool
  /-- The carry flag (R36). -/
  c : Bool
  /-- The test/control flag (R37). -/
  tc : Bool
  /-- The overflow mode bit (R38). -/
  ovm : Bool
  /-- The sign-extension mode bit (R39). -/
  sxm : Bool
deriving DecidableEq, Repr

/-- Status register ST1 by fields (R45 to R61). The reserved bit 10 reads 0 and no write changes it (R49), so it is
no field. -/
structure St1 where
  /-- The auxiliary register pointer (R46). -/
  arp : XReg
  /-- The XF status bit, which the XFS output always equals (R47). -/
  xf : Bool
  /-- The M0 and M1 mapping mode bit (R48). -/
  m0m1map : Bool
  /-- The object compatibility mode bit (R52). -/
  objmode : Bool
  /-- The address mode bit (R53). -/
  amode : Bool
  /-- The IDLE status bit (R54). -/
  idlestat : Bool
  /-- The emulation access enable bit (R55). -/
  eallow : Bool
  /-- The loop instruction status bit (R56). -/
  loop : Bool
  /-- The stack pointer alignment bit (R57). -/
  spa : Bool
  /-- The vector map bit (R58). -/
  vmap : Bool
  /-- The PAGE0 addressing mode configuration bit (R59). -/
  page0 : Bool
  /-- The debug enable mask bit (R60). -/
  dbgm : Bool
  /-- The interrupt global mask bit (R61). -/
  intm : Bool
deriving DecidableEq, Repr

/-- Memory: (byte address, byte) pairs with addresses strictly rising and no entry that equals what an unlisted byte
reads as. The word at word address `a` has its LSByte at `2a` and its MSByte at `2a + 1` (R110, R111). -/
abbrev Memory := List Host.Cell

/-- An access the pipeline may not have caught up with (R130, R596): the physical word, whether it was reached through
program space, and the number of the instruction that made it. -/
structure AccessMark where
  word : Nat
  prog : Bool
  stamp : Nat
deriving DecidableEq, Repr

/-- The machine. Plain data; each field's rule and reset value stands in INVENTORY.md. -/
structure State where
  /-- The accumulator (R21). -/
  acc : Long
  /-- The product register (R23). -/
  p : Long
  /-- The multiplicand register (R22). -/
  xt : Long
  /-- The auxiliary registers (R26). -/
  xar : XarFile
  /-- The data page pointer (R24). -/
  dp : Word
  /-- The stack pointer (R25). -/
  sp : Word
  /-- The program counter: the address of the instruction being executed, or of the next one (R27). -/
  pc : ProgAddr
  /-- The return program counter (R28). -/
  rpc : ProgAddr
  st0 : St0
  st1 : St1
  /-- The interrupt flag register (R62). -/
  ifr : Word
  /-- The interrupt enable register (R63). -/
  ier : Word
  /-- The debug interrupt enable register (R64). -/
  dbgier : Word
  /-- The repeat counter (R65). -/
  rptc : Word
  /-- Whether RPT has executed and the instruction it repeats has not finished (R454, R512). -/
  repeating : Bool
  /-- The temporary copy of the program-space operand address under RPT (R362, R363, R420). -/
  rptAddr : Option ProgAddr
  /-- The debug status register, opaque (R66). -/
  dbgstat : Word
  /-- The pending request of the NMI line, set by the environment (R535). -/
  nmiPending : Bool
  /-- The pending request of the reset line, set by the environment (R536, R582). -/
  resetRequest : Bool
  /-- The first instruction of a service routine has not begun, so no interrupt is served (R519). -/
  isrStart : Bool
  /-- The interrupt-acknowledge events IACK has sent, oldest first (R462). -/
  acks : List Word
  mem : Memory
  /-- The model's own field: the words stored since the last flush of the pipeline (R130, R596; log 20). -/
  stores : List AccessMark
  /-- The model's own field: the words the last instructions read, through which space (R596; log 21). -/
  reads : List AccessMark
  /-- The model's own field: how many instructions have begun (log 21). -/
  icount : Nat
deriving DecidableEq, Repr

/-- Why the machine stops with a fault: there is "no data-access fault, no arithmetic trap and no alignment fault"
(R500): the exceptions of this hardware are interrupts and traps, which are next states, and what the spec leaves out
is its `refuse`, a `Refusal`. Safe. -/
inductive Fault where
deriving DecidableEq, Repr

/-- Why the model has no behaviour for a step: the spec's `refuse` (R8, 93_implementation_defined.md). -/
inductive Refusal where
  /-- Raised by an arm of `exec` whose instruction has no meaning yet. Safe. -/
  | notModelled (mnemonic : String)
  /-- Raised by the fetch of a word that no row of the opcode table fits (R146, D10, U11). Safe: nothing is claimed. -/
  | unlistedWord (word : Word)
  /-- Raised by the fetch of a two-word instruction whose second word no row fits (R146, D10, U11). Safe. -/
  | unlistedSecondWord (word second : Word)
  /-- Raised by the step while OBJMODE = 0 for every instruction other than C28OBJ (R586, U13). Safe. -/
  | c27xObjectMode
  /-- Raised by every step but a reset while OBJMODE = 0 and AMODE = 1 (R5, U1). Safe. -/
  | unlistedOperatingMode
  /-- Raised by every step but a reset while OBJMODE = 1 and M0M1MAP = 0 (R48, U2). Safe. -/
  | m0m1mapCleared
  /-- Raised by a `loc` field to which the spec gives no effect under AMODE = 1 (R126, U13). Safe. -/
  | addressingMode (field : Loc)
  /-- Raised by an instruction that tests NBIO (R150, D26, U14). Safe. -/
  | nbioCondition
  /-- Raised by MOVAD and XMACD with a register operand, which has no next address (R353, R371, U15). Safe. -/
  | noNextAddress
  /-- Raised by MAC, DMAC, IMACL and QMACL through XAR7 whose `loc` operand uses XAR7 (R363, U15). Safe. -/
  | operandUsesXar7
  /-- Raised by a 32-bit operand that names a 16-bit half, `@AH` or `@PH` (U15). Safe. -/
  | halfRegisterAsLong
  /-- Raised by a program access to the emulation registers, data 0x0800 to 0x09FF (R104, U4). Safe. -/
  | emulationRegister (word : Nat)
  /-- Raised by an access to a protected register while EALLOW = 0 (R55, U3). Safe. -/
  | protectedRegister (word : Nat)
  /-- Raised by an access to a word address that the parameter `MemMap` does not populate (R106, D7, U9). Safe. -/
  | noMemory (word : Nat)
  /-- Raised by the fetch of a vector where the parameter `pie_present` is true (R541, U23). Safe. -/
  | pieVector
  /-- Raised by every step where the parameter `emulator_attached` is true (R545, D5, U24). Safe. -/
  | emulatorAttached
  /-- Raised by the fetch of a word stored since the pipeline was last flushed (R130, D9, U20). Safe. -/
  | staleFetch (word : Nat)
  /-- Raised by a read through one space of a word the previous instruction wrote through the other, and by a write
  through one space of a word the previous instruction read or wrote through the other (R596, D23, U21). Safe. -/
  | unorderedAccess (word : Nat)
deriving DecidableEq, Repr

/-- The result of an operation that can stop. -/
abbrev Res (α : Type) := Except Refusal α

/-- ST0 after reset: 0x0000 (R29, R72). -/
def St0.reset : St0 :=
  { ovc := 0, pm := 0, v := false, n := false, z := false, c := false, tc := false, ovm := false, sxm := false }

/-- ST1 after reset: 0x080B with both pins high (R45, R72). -/
def St1.reset : St1 :=
  { arp := .xar0, xf := false, m0m1map := Config.m0m1mapPin, objmode := false, amode := false, idlestat := false,
    eallow := false, loop := false, spa := false, vmap := Config.vmapPin, page0 := false, dbgm := true, intm := true }

/-- The auxiliary registers after reset (R72). -/
def XarFile.reset : XarFile := { x0 := 0, x1 := 0, x2 := 0, x3 := 0, x4 := 0, x5 := 0, x6 := 0, x7 := 0 }

/-- The machine right after reset (R72, R581): every register at its reset value, nothing listed in memory, and the
reset request that put it there still to fetch the reset vector (R582, C9; DESIGN CHOICE, log 1). Memory holds any value
at power-up (R72, R583): `State.powerUp` is this state with any content (log 2). -/
def State.reset : State :=
  { acc := 0, p := 0, xt := 0, xar := XarFile.reset, dp := 0,
    sp := if Config.m0m1mapPin then 0x0400 else 0x0000,
    pc := if Config.vmapPin then 0x3FFFC0 else 0x000000,
    rpc := 0, st0 := St0.reset, st1 := St1.reset, ifr := 0, ier := 0, dbgier := 0, rptc := 0, repeating := false,
    rptAddr := none, dbgstat := Config.dbgstat, nmiPending := false, resetRequest := true, isrStart := false, acks := [],
    mem := [], stores := [], reads := [], icount := 0 }

/-- The machine at power-up with the content `m` of memory: any value (R72, R583, U7). -/
def State.powerUp (m : Memory) : State := { State.reset with mem := m }

end Sys2Proof.Machine
end

