-- ==== Sys2Proof/Machine/Flags.lean ====
section
/-! DEFINITION. The status registers as words, the shared ALU procedures of 10_state.md section 8 (AddAcc, SubAcc,
AddU32, SubU32, Add16, Sub16, Cmp16, Cmp32, PShift, Ext16), the product helpers of 44_multiply.md R351, the shifts of
43_shift.md and the condition test of R150. Each takes ST0 and gives the result with the new ST0. -/

namespace Sys2Proof.Machine

/-! ## The status registers as words -/

/-- A bit of a status word. -/
abbrev flagBit (b : Bool) : BitVec 1 := BitVec.ofBool b

/-- ST0 as a word: OVC 15:10, PM 9:7, V 6, N 5, Z 4, C 3, TC 2, OVM 1, SXM 0 (R29). -/
def St0.toWord (f : St0) : Word :=
  f.ovc ++ f.pm ++ flagBit f.v ++ flagBit f.n ++ flagBit f.z ++ flagBit f.c ++ flagBit f.tc ++ flagBit f.ovm
    ++ flagBit f.sxm

/-- ST0 loaded from a word: every bit is written (R29, R418, R530). -/
def St0.ofWord (w : Word) : St0 :=
  { ovc := w.extractLsb' 10 6, pm := w.extractLsb' 7 3, v := w.getLsbD 6, n := w.getLsbD 5, z := w.getLsbD 4,
    c := w.getLsbD 3, tc := w.getLsbD 2, ovm := w.getLsbD 1, sxm := w.getLsbD 0 }

/-- ST1 as a word: ARP 15:13, XF 12, M0M1MAP 11, reserved 10, OBJMODE 9, AMODE 8, IDLESTAT 7, EALLOW 6, LOOP 5, SPA 4,
VMAP 3, PAGE0 2, DBGM 1, INTM 0 (R45); the reserved bit reads 0 (R49). -/
def St1.toWord (f : St1) : Word :=
  f.arp.bits ++ flagBit f.xf ++ flagBit f.m0m1map ++ 0#1 ++ flagBit f.objmode ++ flagBit f.amode ++ flagBit f.idlestat
    ++ flagBit f.eallow ++ flagBit f.loop ++ flagBit f.spa ++ flagBit f.vmap ++ flagBit f.page0 ++ flagBit f.dbgm
    ++ flagBit f.intm

/-- ST1 loaded from a word: every bit but IDLESTAT and LOOP, which keep their values, and the reserved bit, which has
none (R49, R54, R56, R418, R530). -/
def St1.load (f : St1) (w : Word) : St1 :=
  { arp := XReg.ofBits (w.extractLsb' 13 3), xf := w.getLsbD 12, m0m1map := w.getLsbD 11, objmode := w.getLsbD 9,
    amode := w.getLsbD 8, idlestat := f.idlestat, eallow := w.getLsbD 6, loop := f.loop, spa := w.getLsbD 4,
    vmap := w.getLsbD 3, page0 := w.getLsbD 2, dbgm := w.getLsbD 1, intm := w.getLsbD 0 }

/-! ## Overflow of a 32-bit result -/

/-- Where an exact result lies against the signed 32-bit range (R33). -/
inductive Overflow where
  | none
  | positive
  | negative
deriving DecidableEq, Repr

/-- Overflow of an exact 32-bit result: outside -2^31 .. 2^31 - 1 (R33, R75). -/
def overflow32 (x : Int) : Overflow :=
  if 2147483647 < x then .positive else if x < -2147483648 then .negative else .none

/-- Overflow of an exact 16-bit result: outside -2^15 .. 2^15 - 1 (R33, R78). -/
def overflow16 (x : Int) : Overflow :=
  if 32767 < x then .positive else if x < -32768 then .negative else .none

/-- The overflow counter while OVM = 0: one up or down by the direction of the overflow, modulo 64; while OVM = 1 it
is not affected (R30, C6). -/
def countOverflow (f : St0) (o : Overflow) : BitVec 6 :=
  if f.ovm then f.ovc
  else match o with
    | .none => f.ovc
    | .positive => f.ovc + 1
    | .negative => f.ovc - 1

/-- The 32-bit result, saturated while OVM = 1 (R38). -/
def saturate (f : St0) (o : Overflow) (r : Long) : Long :=
  if f.ovm then
    match o with
    | .none => r
    | .positive => 0x7FFFFFFF
    | .negative => 0x80000000
  else r

/-- V is set by an overflow and latched (R33). -/
def latchV (f : St0) (o : Overflow) : Bool := f.v || o != .none

/-- N and Z from a result of any width (R34, R35). -/
def setNZ {w : Nat} (f : St0) (r : BitVec w) : St0 := { f with n := r.msb, z := r == 0 }

/-! ## Addition and subtraction -/

/-- Procedure `AddAcc(a, b, cin)` (R75): C is the carry before saturation (D6), N and Z are of the final result. -/
def addAcc (f : St0) (a b : Long) (cin : Bool) : Long × St0 :=
  let usum := a.toNat + b.toNat + cin.toNat
  let o := overflow32 (a.toInt + b.toInt + cin.toNat)
  let r := saturate f o (BitVec.ofNat 32 usum)
  (r, setNZ { f with c := decide (4294967296 ≤ usum), v := latchV f o, ovc := countOverflow f o } r)

/-- Procedure `SubAcc(a, b, bin)` (R76): `a - b - bin`, C = 0 on borrow else 1. -/
def subAcc (f : St0) (a b : Long) (bin : Bool) : Long × St0 :=
  let o := overflow32 (a.toInt - b.toInt - bin.toNat)
  let r := saturate f o (a - b - BitVec.ofNat 32 bin.toNat)
  (r, setNZ { f with c := !decide (a.toNat < b.toNat + bin.toNat), v := latchV f o, ovc := countOverflow f o } r)

/-- Procedure `AddU32(a, b)` (R77): OVC counts carries, V is set by signed overflow, OVM is not consulted. -/
def addU32 (f : St0) (a b : Long) : Long × St0 :=
  let carry := decide (4294967296 ≤ a.toNat + b.toNat)
  let r := a + b
  (r, setNZ { f with c := carry, v := latchV f (overflow32 (a.toInt + b.toInt)),
                     ovc := if carry then f.ovc + 1 else f.ovc } r)

/-- Procedure `SubU32(a, b)` (R77, C5): OVC counts borrows down. -/
def subU32 (f : St0) (a b : Long) : Long × St0 :=
  let borrow := decide (a.toNat < b.toNat)
  let r := a - b
  (r, setNZ { f with c := !borrow, v := latchV f (overflow32 (a.toInt - b.toInt)),
                     ovc := if borrow then f.ovc - 1 else f.ovc } r)

/-- Procedure `Add16(a, b)` (R78): no saturation and no OVC change. -/
def add16 (f : St0) (a b : Word) : Word × St0 :=
  let r := a + b
  (r, setNZ { f with c := decide (65536 ≤ a.toNat + b.toNat), v := latchV f (overflow16 (a.toInt + b.toInt)) } r)

/-- Procedure `Sub16(a, b)` (R78): `a - b`, C = 0 on borrow else 1. -/
def sub16 (f : St0) (a b : Word) : Word × St0 :=
  let r := a - b
  (r, setNZ { f with c := !decide (a.toNat < b.toNat), v := latchV f (overflow16 (a.toInt - b.toInt)) } r)

/-- OVC after a 16-bit memory result: changed only under the parameter `ovc_counts_mem16_overflow` (R31, R270, C4). -/
def countMem16 (f : St0) (o : Overflow) (g : St0) : St0 :=
  if Config.ovcCountsMem16Overflow then { g with ovc := countOverflow f o } else g

/-- Add16 for ADD loc16,#16bitSigned and INC loc16 (R273, R278). -/
def add16Mem (f : St0) (a b : Word) : Word × St0 :=
  ((add16 f a b).1, countMem16 f (overflow16 (a.toInt + b.toInt)) (add16 f a b).2)

/-- Sub16 for DEC loc16 (R279). -/
def sub16Mem (f : St0) (a b : Word) : Word × St0 :=
  ((sub16 f a b).1, countMem16 f (overflow16 (a.toInt - b.toInt)) (sub16 f a b).2)

/-- The C rule of ADD ACC,loc16<<16: a carry sets C and no carry leaves it (R36, R211). -/
def keepCarrySet (f : St0) (r : Long × St0) : Long × St0 := (r.1, { r.2 with c := f.c || r.2.c })

/-- The C rule of SUB ACC,loc16<<16: a borrow clears C and no borrow leaves it (R36, R222). -/
def keepCarryClear (f : St0) (r : Long × St0) : Long × St0 := (r.1, { r.2 with c := f.c && r.2.c })

/-! ## Comparison -/

/-- Procedures `Cmp16` and `Cmp32` (R79): flags of `a - b` with N of infinite precision; V and OVC unchanged. -/
def cmpFlags {w : Nat} (f : St0) (a b : BitVec w) : St0 :=
  { f with c := !decide (a.toNat < b.toNat), z := a == b, n := decide (a.toInt < b.toInt) }

/-- V after MAX and MAXL of register `a` and operand `b` (R240, R283, D14). -/
def maxV {w : Nat} (f : St0) (a b : BitVec w) : Bool :=
  match Config.minmaxVSense with
  | .asTable26 => f.v || decide (b.toInt < a.toInt)
  | .onReplace => f.v || decide (a.toInt < b.toInt)

/-- V after MIN and MINL (R241, R284, D14). -/
def minV {w : Nat} (f : St0) (a b : BitVec w) : Bool :=
  match Config.minmaxVSense with
  | .asTable26 => f.v || decide (a.toInt < b.toInt)
  | .onReplace => f.v || decide (b.toInt < a.toInt)

/-- MAX and MAXL: the larger of the two as signed numbers, and the flags (R240, R283). -/
def maxOp {w : Nat} (f : St0) (a b : BitVec w) : BitVec w × St0 :=
  (if a.toInt < b.toInt then b else a, { cmpFlags f a b with v := maxV f a b })

/-- MIN and MINL: the smaller of the two as signed numbers, and the flags (R241, R284). -/
def minOp {w : Nat} (f : St0) (a b : BitVec w) : BitVec w × St0 :=
  (if b.toInt < a.toInt then b else a, { cmpFlags f a b with v := minV f a b })

/-! ## Operands of the accumulator -/

/-- Procedure `Ext16(v)` (R82). -/
def ext16 (f : St0) (v : Word) : Long := if f.sxm then v.signExtend 32 else v.zeroExtend 32

/-- A 16-bit operand extended and shifted left into 32 bits (R81, R211). -/
def shifted16 (f : St0) (v : Word) (k : Nat) : Long := ext16 f v <<< k

/-- The shift count T[3:0] (R213). -/
abbrev count4 (t : Word) : Nat := (t.extractLsb' 0 4).toNat

/-- The shift count T[4:0] (R313). -/
abbrev count5 (t : Word) : Nat := (t.extractLsb' 0 5).toNat

/-- The shift count T[5:0] (R327). -/
abbrev count6 (t : Word) : Nat := (t.extractLsb' 0 6).toNat

/-- The count of an immediate shift, encoded as count minus 1 (R310). -/
abbrev immCount {w : Nat} (sh : BitVec w) : Nat := sh.toNat + 1

/-! ## Products -/

/-- Procedure `PShift(p)` (R80). -/
def pshift (pm : BitVec 3) (amode : Bool) (p : Long) : Long :=
  if pm = 0 then p <<< 1
  else if pm = 1 then p
  else if pm = 5 && amode then p <<< 4
  else p.sshiftRight (pm.toNat - 1)

/-- `Mul16s(a, b)`: the signed 16 x 16 product (R351). -/
def mul16s (a b : Word) : Long := BitVec.ofInt 32 (a.toInt * b.toInt)

/-- The exact signed 32 x 32 product in 64 bits (R351, R365). -/
def mul32s (a b : Long) : Quad := BitVec.ofInt 64 (a.toInt * b.toInt)

/-- The exact product of a signed and an unsigned 32-bit number (R368). -/
def mul32su (a b : Long) : Quad := BitVec.ofInt 64 (a.toInt * (b.toNat : Int))

/-- `MulHi(a, b)`: bits 63:32 of the signed product (R351). -/
def mulHi (a b : Long) : Long := (mul32s a b).extractLsb' 32 32

/-- `IProd(x)`: the value the I group loads into P (R351). -/
def iprod (pm : BitVec 3) (amode : Bool) (x : Quad) : Long :=
  if pm = 0 then (x <<< 1).extractLsb' 0 32
  else if pm = 1 then x.extractLsb' 0 32
  else if pm = 5 && amode then (x <<< 4).extractLsb' 0 32
  else x.extractLsb' (pm.toNat - 1) 32

/-! ## Shifts -/

/-- The last bit a left shift by `k` drops; a count of 0 clears C (R310). -/
def outLeft {w : Nat} (x : BitVec w) (k : Nat) : Bool := if k = 0 then false else x.getLsbD (w - k)

/-- The last bit a right shift by `k` drops; a count of 0 clears C (R310). -/
def outRight {w : Nat} (x : BitVec w) (k : Nat) : Bool := if k = 0 then false else x.getLsbD (k - 1)

/-- A left shift with C, N and Z (R311 to R313, R320, R321, R326, R327). -/
def lsl {w : Nat} (f : St0) (x : BitVec w) (k : Nat) : BitVec w × St0 :=
  (x <<< k, setNZ { f with c := outLeft x k } (x <<< k))

/-- A logical right shift with C, N and Z (R316, R322, R323, R328, R329). -/
def lsr {w : Nat} (f : St0) (x : BitVec w) (k : Nat) : BitVec w × St0 :=
  (x >>> k, setNZ { f with c := outRight x k } (x >>> k))

/-- An arithmetic right shift with C, N and Z (R317, R324, R325, R330, R331). -/
def asr {w : Nat} (f : St0) (x : BitVec w) (k : Nat) : BitVec w × St0 :=
  (x.sshiftRight k, setNZ { f with c := outRight x k } (x.sshiftRight k))

/-- SFR: arithmetic if SXM = 1, else logical (R314, R315). -/
def sfr (f : St0) (x : Long) (k : Nat) : Long × St0 := if f.sxm then asr f x k else lsr f x k

/-- ROL: bit 31 to C, C to bit 0 (R318). -/
def rol (f : St0) (x : Long) : Long × St0 :=
  let r := x.extractLsb' 0 31 ++ flagBit f.c
  (r, setNZ { f with c := x.getLsbD 31 } r)

/-- ROR: bit 0 to C, C to bit 31 (R319). -/
def ror (f : St0) (x : Long) : Long × St0 :=
  let r := flagBit f.c ++ x.extractLsb' 1 31
  (r, setNZ { f with c := x.getLsbD 0 } r)

/-! ## Negation, absolute value, saturation -/

/-- The most negative number of a width. -/
abbrev minNeg (w : Nat) : BitVec w := BitVec.intMin w

/-- Negation in place where the most negative number overflows: V is set, and the value is the most positive number
if OVM = 1, else unchanged (R242, R244, R246). -/
def negSat {w : Nat} (f : St0) (x : BitVec w) : BitVec w × St0 :=
  if x = minNeg w then (if f.ovm then BitVec.intMax w else x, { f with v := true }) else (-x, f)

/-- The operation of NEG ACC, NEGTC ACC with TC = 1, and NEG64 (R244, R246). -/
def negOp {w : Nat} (f : St0) (x : BitVec w) : BitVec w × St0 :=
  let r := negSat f x
  (r.1, setNZ { r.2 with c := r.1 == 0 } r.1)

/-- ABS ACC (R242). -/
def absOp (f : St0) (x : Long) : Long × St0 :=
  let r := if x.msb then negSat f x else (x, f)
  (r.1, setNZ { r.2 with c := false } r.1)

/-- ABSTC ACC: as ABS, and TC changes where ACC was negative (R243). -/
def abstcOp (f : St0) (x : Long) : Long × St0 := absOp { f with tc := f.tc ^^ x.msb } x

/-- NEG AX: no saturation (R285). -/
def neg16 (f : St0) (x : Word) : Word × St0 :=
  let r := -x
  (r, setNZ { f with v := f.v || x == 0x8000, c := r == 0 } r)

/-- SAT ACC and SAT64 ACC:P by the sign of OVC; V is written both ways (R247, R248). -/
def satOp {w : Nat} (f : St0) (x : BitVec w) : BitVec w × St0 :=
  let r := if 0 < f.ovc.toInt then BitVec.intMax w else if f.ovc.toInt < 0 then BitVec.intMin w else x
  (r, setNZ { f with v := f.ovc != 0, ovc := 0, c := false } r)

/-- The bits below bit `k` that equal the sign bit, counted from bit `k - 1` down (R255). -/
def signRun (x : Long) : Nat → Nat
  | 0 => 0
  | k + 1 => if x.getLsbD k = x.msb then signRun x k + 1 else 0

/-- CSB: leading bits equal to ACC[31], minus 1 (R255). -/
def signBits (x : Long) : Nat := signRun x 31

/-! ## Conditional subtraction -/

/-- One step of unsigned division by a 16-bit divisor (R251). -/
def subcuOp (f : St0) (acc : Long) (v : Word) : Long × St0 :=
  let hit := decide (v.toNat * 65536 ≤ 2 * acc.toNat)
  let r := if hit then BitVec.ofNat 32 (2 * acc.toNat - v.toNat * 65536 + 1) else acc <<< 1
  (r, setNZ { f with c := hit } r)

/-- One step of unsigned division by a 32-bit divisor: the new ACC, the new P and the flags (R252). -/
def subculOp (f : St0) (acc p v : Long) : Long × Long × St0 :=
  let d := 2 * acc.toNat + p.msb.toNat
  let hit := decide (v.toNat ≤ d)
  let r := BitVec.ofNat 32 (if hit then d - v.toNat else d)
  (r, (p <<< 1) + BitVec.ofNat 32 hit.toNat, setNZ { f with c := hit } r)

/-! ## Conditions -/

/-- The condition on the flags as they are before the instruction; NBIO has none (R150). -/
def condHolds (f : St0) : Cond → Bool
  | .neq => !f.z
  | .eq => f.z
  | .gt => !f.z && !f.n
  | .geq => !f.n
  | .lt => f.n
  | .leq => f.z || f.n
  | .hi => f.c && !f.z
  | .his => f.c
  | .lo => !f.c
  | .los => !f.c || f.z
  | .nov => !f.v
  | .ov => f.v
  | .ntc => !f.tc
  | .tc => f.tc
  | .nbio => false
  | .unc => true

/-- ST0 after a condition has been tested: NOV and OV clear V whatever the outcome (R33, R150). -/
def condFlags (f : St0) (c : Cond) : St0 :=
  match c with
  | .nov | .ov => { f with v := false }
  | _ => f

end Sys2Proof.Machine
end

