-- ==== Sys2Proof/Machine/Ops.lean ====
section
/-! DEFINITION. The named operations: registers and their halves, memory, the two address spaces, the stack, taking an
interrupt or trap and returning from one, reset, and the events of the environment. -/

namespace Sys2Proof.Machine

/-! ## Outcomes -/

/-- An operation's result as the outcome of a step. -/
def Res.toOutcome : Res State → Host.Outcome State Fault Refusal
  | .ok s => .next s
  | .error r => .refused r

/-! ## Registers -/

/-- XARn (R26). -/
def XarFile.get (x : XarFile) : XReg → Long
  | .xar0 => x.x0 | .xar1 => x.x1 | .xar2 => x.x2 | .xar3 => x.x3
  | .xar4 => x.x4 | .xar5 => x.x5 | .xar6 => x.x6 | .xar7 => x.x7

/-- XARn written (R26). -/
def XarFile.set (x : XarFile) (n : XReg) (v : Long) : XarFile :=
  match n with
  | .xar0 => { x with x0 := v } | .xar1 => { x with x1 := v } | .xar2 => { x with x2 := v }
  | .xar3 => { x with x3 := v } | .xar4 => { x with x4 := v } | .xar5 => { x with x5 := v }
  | .xar6 => { x with x6 := v } | .xar7 => { x with x7 := v }

/-- All 32 bits of XARn. -/
def State.xarOf (s : State) (n : XReg) : Long := s.xar.get n

/-- ARn = XARn[15:0] (R26). -/
def State.arOf (s : State) (n : XReg) : Word := lowWord (s.xar.get n)

/-- XARn written whole. -/
def State.setXar (s : State) (n : XReg) (v : Long) : State := { s with xar := s.xar.set n v }

/-- ARn written, ARnH unchanged (R124). -/
def State.setAr (s : State) (n : XReg) (v : Word) : State :=
  { s with xar := s.xar.set n (longOf (highWord (s.xar.get n)) v) }

/-- XAR(ARP), the current auxiliary register (R26, R46). -/
def State.cur (s : State) : Long := s.xarOf s.st1.arp

/-- AR0, the index register of the indirect modes (R126). -/
def State.ar0 (s : State) : Word := s.arOf .xar0

/-- T = XT[31:16] (R22). -/
def State.t (s : State) : Word := highWord s.xt

/-- T written, TL unchanged. -/
def State.setT (s : State) (v : Word) : State := { s with xt := longOf v (lowWord s.xt) }

/-- AX: AH or AL (R9, R21). -/
def State.ax (s : State) : AccHalf → Word
  | .al => lowWord s.acc
  | .ah => highWord s.acc

/-- AX written, the other half of ACC unchanged (R21). -/
def State.setAx (s : State) (h : AccHalf) (v : Word) : State :=
  match h with
  | .al => { s with acc := longOf (highWord s.acc) v }
  | .ah => { s with acc := longOf v (lowWord s.acc) }

/-- ACC:P, ACC high (R9). -/
def State.accP (s : State) : Quad := s.acc ++ s.p

/-- ACC:P written. -/
def State.setAccP (s : State) (x : Quad) : State :=
  { s with acc := x.extractLsb' 32 32, p := x.extractLsb' 0 32 }

/-- ACC and ST0 written. -/
def State.setAcc (s : State) (r : Long × St0) : State := { s with acc := r.1, st0 := r.2 }

/-- ACC:P and ST0 written. -/
def State.setAccPF (s : State) (r : Quad × St0) : State := { s.setAccP r.1 with st0 := r.2 }

/-- AX and ST0 written. -/
def State.setAxF (s : State) (h : AccHalf) (r : Word × St0) : State := { s.setAx h r.1 with st0 := r.2 }

/-- P as it leaves the barrel shifter under PM and AMODE (R80). -/
def State.pShifted (s : State) : Long := pshift s.st0.pm s.st1.amode s.p

/-- The program counter moved past an instruction of `len` words, modulo 2^22 (R27, D3). -/
def State.advance (s : State) (len : ProgAddr) : State := { s with pc := s.pc + len }

/-- ST0 as a word (R29). -/
def State.st0Word (s : State) : Word := s.st0.toWord

/-- ST1 as a word (R45). -/
def State.st1Word (s : State) : Word := s.st1.toWord

/-! ## Memory -/

/-- The byte at a key; an unlisted byte reads as `Config.unwrittenByte`. -/
def Memory.get : Memory → Nat → Byte
  | [], _ => Config.unwrittenByte
  | (k, v) :: m, a => if k = a then v else Memory.get m a

/-- The memory without the entry of a key. -/
def Memory.erase : Memory → Nat → Memory
  | [], _ => []
  | (k, v) :: m, a => if k = a then Memory.erase m a else (k, v) :: Memory.erase m a

/-- An entry put in its place by address. -/
def Memory.insert : Memory → Nat → Byte → Memory
  | [], a, b => [(a, b)]
  | (k, v) :: m, a, b => if a < k then (a, b) :: (k, v) :: m else (k, v) :: Memory.insert m a b

/-- A byte written: writing what an unlisted byte reads as removes the entry. -/
def Memory.set (m : Memory) (a : Nat) (b : Byte) : Memory :=
  if b = Config.unwrittenByte then Memory.erase m a else Memory.insert (Memory.erase m a) a b

/-- The canonical form from a lowest key up: keys rise strictly and stay below 2^33 (two for each data-space word), no
entry equals what an unlisted byte reads as. -/
def Memory.wfFrom : Nat → Memory → Bool
  | _, [] => true
  | lo, (k, v) :: m =>
    decide (lo ≤ k) && decide (k < 8589934592) && (v != Config.unwrittenByte) && Memory.wfFrom (k + 1) m

/-- The canonical form of memory. -/
def Memory.wf (m : Memory) : Bool := Memory.wfFrom 0 m

/-- The word at a word address: LSByte at `2a`, MSByte at `2a + 1`. -/
def Memory.word (m : Memory) (a : Nat) : Word := Memory.get m (2 * a + 1) ++ Memory.get m (2 * a)

/-- A word written. -/
def Memory.setWord (m : Memory) (a : Nat) (v : Word) : Memory :=
  Memory.set (Memory.set m (2 * a) (v.extractLsb' 0 8)) (2 * a + 1) (v.extractLsb' 8 8)

/-! ## The two address spaces -/

/-- The physical word a program-space address names: the data-space word of the same address (R101), with M0 and M1
exchanged while M0M1MAP = 0 (R48). -/
def State.progWord (s : State) (a : ProgAddr) : Nat :=
  if s.st1.m0m1map then a.toNat
  else if a.toNat < 0x400 then a.toNat + 0x400
  else if a.toNat < 0x800 then a.toNat - 0x400
  else a.toNat

/-- Whether data space may be accessed at a word: it exists (R106, D7), it is no emulation register (R104, U4), and it
is not protected while EALLOW = 0 (R55, U3). -/
def State.dataAccess (s : State) (w : Nat) : Res Unit :=
  if Config.inRanges w Config.dataHoles then .error (.noMemory w)
  else if 0x800 ≤ w ∧ w ≤ 0x9FF then .error (.emulationRegister w)
  else if Config.inRanges w Config.protectedRegs && !s.st1.eallow then .error (.protectedRegister w)
  else .ok ()

/-- Whether program space may be accessed at a physical word (R106, D7). -/
def progAccess (w : Nat) : Res Unit :=
  if Config.inRanges w Config.progHoles then .error (.noMemory w) else .ok ()

/-- Whether one of these accesses is the previous instruction's to the word, through the other space than now (R596,
D23; log 21). -/
def State.clash (s : State) (ks : List AccessMark) (w : Nat) (prog : Bool) : Bool :=
  ks.any fun k => k.word == w && k.prog != prog && k.stamp + 1 == s.icount

/-- Whether what a read of the word gives would depend on the order of the two spaces: the previous instruction wrote
it through the other one (R596). -/
def State.unordered (s : State) (w : Nat) (prog : Bool) : Bool := s.clash s.stores w prog

/-- Whether the effect of a write of the word would depend on that order: the previous instruction wrote or read it
through the other space (R596). -/
def State.unorderedWrite (s : State) (w : Nat) (prog : Bool) : Bool := s.clash s.stores w prog || s.clash s.reads w prog

/-- A write of a word allowed by the order of the two spaces (R596). -/
def State.writeInOrder (s : State) (w : Nat) (prog : Bool) : Res Unit :=
  if s.unorderedWrite w prog then .error (.unorderedAccess w) else .ok ()

/-- A read of a word allowed by the order of the two spaces (R596). -/
def State.inOrder (s : State) (w : Nat) (prog : Bool) : Res Unit :=
  if s.unordered w prog then .error (.unorderedAccess w) else .ok ()

/-- The store recorded until the pipeline is flushed (R130); only words that program space reaches can be fetched. -/
def State.mark (s : State) (w : Nat) (prog : Bool) : List AccessMark :=
  if w < 4194304 then ⟨w, prog, s.icount⟩ :: s.stores.filter (fun k => k.word != w) else s.stores

/-- `MemRead(D, a, 16)` (R108). -/
def readData (s : State) (a : DataAddr) : Res Word := do
  s.dataAccess a.toNat
  s.inOrder a.toNat false
  return s.mem.word a.toNat

/-- `MemWrite(D, a, 16, v)` (R108). -/
def writeData (s : State) (a : DataAddr) (v : Word) : Res State := do
  s.dataAccess a.toNat
  s.writeInOrder a.toNat false
  return { s with mem := s.mem.setWord a.toNat v, stores := s.mark a.toNat false }

/-- The even address a 32-bit access begins at (R109). -/
def evenAddr {w : Nat} (a : BitVec w) : BitVec w := a &&& ~~~(1#w)

/-- `MemRead(D, a, 32)`: the word at the even address is the low one (R109). -/
def readData32 (s : State) (a : DataAddr) : Res Long := do
  let lo ← readData s (evenAddr a)
  let hi ← readData s (evenAddr a + 1)
  return longOf hi lo

/-- `MemWrite(D, a, 32, v)` (R109). -/
def writeData32 (s : State) (a : DataAddr) (v : Long) : Res State := do
  let s1 ← writeData s (evenAddr a) (lowWord v)
  writeData s1 (evenAddr a + 1) (highWord v)

/-- `MemRead(P, a, 16)` (R107, R108). -/
def readProg (s : State) (a : ProgAddr) : Res Word := do
  progAccess (s.progWord a)
  s.inOrder (s.progWord a) true
  return s.mem.word (s.progWord a)

/-- `MemRead(P, a, 32)`, aligned as a data read is (R109, R364). -/
def readProg32 (s : State) (a : ProgAddr) : Res Long := do
  let lo ← readProg s (evenAddr a)
  let hi ← readProg s (evenAddr a + 1)
  return longOf hi lo

/-- `MemWrite(P, a, 16, v)` (R107, R422). -/
def writeProg (s : State) (a : ProgAddr) (v : Word) : Res State := do
  progAccess (s.progWord a)
  s.writeInOrder (s.progWord a) true
  return { s with mem := s.mem.setWord (s.progWord a) v, stores := s.mark (s.progWord a) true }

/-- A byte of an addressed word: its MSByte or its LSByte (R111). -/
def readDataByte (s : State) (a : DataAddr) (ms : Bool) : Res Byte := do
  s.dataAccess a.toNat
  s.inOrder a.toNat false
  return s.mem.get (2 * a.toNat + ms.toNat)

/-- A byte write: the other byte of the word stays (R111). -/
def writeDataByte (s : State) (a : DataAddr) (ms : Bool) (b : Byte) : Res State := do
  s.dataAccess a.toNat
  s.writeInOrder a.toNat false
  return { s with mem := s.mem.set (2 * a.toNat + ms.toNat) b, stores := s.mark a.toNat false }

/-- The program address in XAR7: its low 22 bits (R125, D3). -/
def State.xar7Addr (s : State) : ProgAddr := (s.xarOf .xar7).extractLsb' 0 22

/-- The program address `0:pma` (R125). -/
def pmaLow (c : Word) : ProgAddr := 0#6 ++ c

/-- The program address `*(pma)`, 0x3F0000 + pma (R125). -/
def pmaHigh (c : Word) : ProgAddr := 0x3F#6 ++ c

/-! ## The stack -/

/-- The data address SP holds: the upper 16 bits are 0 (R25, C3). -/
def State.spAddr (s : State) : DataAddr := s.sp.zeroExtend 32

/-- `Push16(v)` (R390). -/
def push16 (s : State) (v : Word) : Res State := do
  let s1 ← writeData s s.spAddr v
  return { s1 with sp := s1.sp + 1 }

/-- `Push32(v)`: with an odd SP the pair written is at SP - 1 and SP (R390). -/
def push32 (s : State) (v : Long) : Res State := do
  let s1 ← writeData32 s s.spAddr v
  return { s1 with sp := s1.sp + 2 }

/-- `Pop16()` (R390). -/
def pop16 (s : State) : Res (Word × State) := do
  let s1 := { s with sp := s.sp - 1 }
  let v ← readData s1 s1.spAddr
  return (v, s1)

/-- `Pop32()` (R390). -/
def pop32 (s : State) : Res (Long × State) := do
  let s1 := { s with sp := s.sp - 2 }
  let v ← readData32 s1 s1.spAddr
  return (v, s1)

/-! ## Interrupts and traps -/

/-- The pipeline flushed: what was stored before can be fetched (R130), and every access has been made. -/
def State.flush (s : State) : State := { s with stores := [], reads := [] }

/-- The first address of the vector table (R503). -/
def State.vectorBase (s : State) : ProgAddr := if s.st1.vmap then 0x3FFFC0 else 0x000000

/-- Procedure `FetchVector(n)`: a program-space read of two words; the 10 MSBs of the upper one are ignored (R503,
R504). A PIE block would replace it (U23). -/
def fetchVector (s : State) (n : BitVec 5) : Res ProgAddr := do
  if Config.piePresent then .error .pieVector
  let a := s.vectorBase + 2 * n.zeroExtend 22
  progAccess (s.progWord a)
  progAccess (s.progWord (a + 1))
  return (s.mem.word (s.progWord (a + 1))).extractLsb' 0 6 ++ s.mem.word (s.progWord a)

/-- Procedure `ContextSave(ret)`: seven 32-bit saves, the SP up by 2 after each (R520); bits 31:22 of the saved return
address are 0 (D21). -/
def contextSave (s : State) (ret : ProgAddr) : Res State := do
  let s1 ← push32 s (longOf s.t s.st0Word)
  let s2 ← push32 s1 s.acc
  let s3 ← push32 s2 s.p
  let s4 ← push32 s3 (longOf (s.arOf .xar1) (s.arOf .xar0))
  let s5 ← push32 s4 (longOf s.dp s.st1Word)
  let s6 ← push32 s5 (longOf s.dbgstat s.ier)
  push32 s6 (ret.zeroExtend 32)

/-- ST1 as an entry leaves it, after it has been saved (R517): INTM and DBGM set, LOOP, EALLOW and IDLESTAT cleared. -/
def St1.entered (f : St1) : St1 :=
  { f with intm := true, dbgm := true, loop := false, eallow := false, idlestat := false }

/-- The bit of an interrupt line in IFR, IER and DBGIER: INTx at x - 1, DLOGINT at 14, RTOSINT at 15 (R62). -/
def lineMask (b : BitVec 4) : Word := 1#16 <<< b.toNat

/-- Taking an interrupt or a trap: the ONE entry sequence. With a maskable line it is `MaskableEntry` (R510 to R521):
the IFR bit is cleared, and the IER bit once IER has been saved; with none it is `TrapEntry` (R523), which touches
neither. `ret` is the return address (R513). The pipeline is flushed before the context is saved (R512), a repeat in
progress ends, and no interrupt is served until the first instruction of the routine has begun (R519). -/
def enterInterrupt (s : State) (vector : BitVec 5) (ret : ProgAddr) (line : Option (BitVec 4)) : Res State := do
  let mask : Word := match line with
    | some b => lineMask b
    | none => 0
  let s1 := { s with ifr := s.ifr &&& ~~~mask }
  let target ← fetchVector s1 vector
  let s2 ← contextSave { s1.flush with sp := s1.sp + 1 } ret
  return { s2 with ier := s2.ier &&& ~~~mask, st1 := s2.st1.entered, pc := target, isrStart := true,
                   repeating := false, rptAddr := none }

/-- `TrapEntry(n)` with a return address (R523). -/
def trapEntry (s : State) (n : BitVec 5) (ret : ProgAddr) : Res State := enterInterrupt s n ret none

/-- The vector of a maskable line: bit b belongs to vector b + 1 (R503, R521). -/
def lineVector (b : BitVec 4) : BitVec 5 := b.zeroExtend 5 + 1

/-- `MaskableEntry` of the interrupt whose bit is `b` (R521). -/
def maskableEntry (s : State) (b : BitVec 4) (ret : ProgAddr) : Res State :=
  enterInterrupt s (lineVector b) ret (some b)

/-- The illegal-instruction trap: as TRAP #19, the return address being the instruction's plus the parameter
`itrap_return_offset` (R537, D16). -/
def illegalTrap (s : State) : Res State := trapEntry s 19 (s.pc + Config.itrapReturnOffset)

/-- Procedure `IretRestore` (R530): seven 32-bit pops in the reverse order of the save, then SP - 1. AR0H, AR1H and TL
stay; DBGSTAT stays (no emulator, D5); the pipeline is flushed (D9). -/
def iretRestore (s : State) : Res State := do
  let (ret, s1) ← pop32 s
  let (ierW, s2) ← pop32 s1
  let (dpSt1, s3) ← pop32 s2
  let (ar10, s4) ← pop32 s3
  let (p, s5) ← pop32 s4
  let (acc, s6) ← pop32 s5
  let (tSt0, s7) ← pop32 s6
  let s8 := (((s7.setAr .xar1 (highWord ar10)).setAr .xar0 (lowWord ar10)).setT (highWord tSt0)).flush
  return { s8 with pc := ret.extractLsb' 0 22, ier := lowWord ierW, dp := highWord dpSt1,
                   st1 := s8.st1.load (lowWord dpSt1), p := p, acc := acc, st0 := St0.ofWord (lowWord tSt0),
                   sp := s8.sp - 1 }

/-! ## Reset and the environment -/

/-- Procedure `Reset` (R582): every register to its reset value, the pending requests and the blocking condition
cleared, memory unchanged (D18), nothing saved, the pc from vector 0 (C9). The acknowledge events already sent stay
sent. -/
def resetSequence (s : State) : Res State := do
  let r := { State.powerUp s.mem with acks := s.acks, icount := s.icount, resetRequest := false }
  let target ← fetchVector r 0
  return { r with pc := target }

/-- The environment requests a maskable interrupt: its IFR bit is set and latched (R62, R506). -/
def State.requestLine (s : State) (b : BitVec 4) : State := { s with ifr := s.ifr ||| lineMask b }

/-- The environment requests NMI; a request made while one is pending is merged (R535, D17). -/
def State.requestNmi (s : State) : State := { s with nmiPending := true }

/-- The environment requests a reset (R536, R580). -/
def State.requestReset (s : State) : State := { s with resetRequest := true }

/-- The maskable interrupts that pass the enable test of IER: flagged and locally enabled (R507). -/
def State.enabledLines (s : State) : Word := s.ifr &&& s.ier

/-- The interrupts the CPU approves: none while INTM = 1 (R507, R61). -/
def State.approved (s : State) : Word := if s.st1.intm then 0 else s.enabledLines

/-- The line of highest rank among some: RTOSINT, then INT1 to INT14, then DLOGINT (R503, R505). -/
def highestLine (w : Word) : Option (BitVec 4) :=
  if w.getLsbD 15 then some 15
  else ((List.range 15).find? fun b => w.getLsbD b).map (BitVec.ofNat 4)

end Sys2Proof.Machine
end

