-- ==== Sys2Proof/Machine/Operands.lean ====
section
/-! DEFINITION. The operands a `loc` field selects (20_memory.md R120 to R127): the place an addressing mode names and
its pointer update, reads and writes of a place in 16 and 32 bits, the traps of R537 and R538, and the shapes that the
meanings share: read, modify, store. -/

namespace Sys2Proof.Machine

/-- The width of a `loc` operand: `loc16` or `loc32` (R120). -/
inductive Width where
  | word | long
deriving DecidableEq, Repr

/-- The step of a pointer update: 1 for a `loc16` operand, 2 for a `loc32` operand (R126). -/
def Width.step : Width → Word
  | .word => 1
  | .long => 2

/-- What a `loc` field selects: a data-space address or a CPU register (R120). -/
inductive Place where
  | mem (a : DataAddr)
  | reg (r : LocReg)
deriving DecidableEq, Repr

/-! ## Addressing modes -/

/-- The bits of a word in the opposite order. -/
def reverseBits (a : Word) : Word := a.reverse

/-- Addition with reverse-carry propagation: from the top bit down (R126). -/
def reverseAdd (a b : Word) : Word := reverseBits (reverseBits a + reverseBits b)

/-- Subtraction with reverse-carry propagation (R126). -/
def reverseSub (a b : Word) : Word := reverseBits (reverseBits a - reverseBits b)

/-- ARP written (R46). -/
def State.setArp (s : State) (n : XReg) : State := { s with st1 := { s.st1 with arp := n } }

/-- XARn written and made the current auxiliary register, as the modes that name XARn do (R126). -/
def State.pointTo (s : State) (n : XReg) (v : Long) : State := (s.setXar n v).setArp n

/-- The pointer update of the circular mode `*AR6%++`: AR6[7:0] back to 0 where it equals AR1[7:0], else AR6 up by the
step; AR6H unchanged (R126). -/
def State.circStep (s : State) (step : Word) : State :=
  let x := s.arOf .xar6
  let next : Word := if x.extractLsb' 0 8 = (s.arOf .xar1).extractLsb' 0 8 then x.extractLsb' 8 8 ++ 0#8 else x + step
  (s.setAr .xar6 next).setArp .xar6

/-- The data-space address of a memory mode and the state after its pointer update (R121, R122, R123, R126). -/
def modeAddr (w : Width) (m : MemMode) (s : State) : DataAddr × State :=
  let step := w.step
  let wide : Long := step.zeroExtend 32
  match m with
  | .direct6 off => (0#10 ++ s.dp ++ off, s)
  | .direct7 off => (0#10 ++ s.dp.extractLsb' 1 15 ++ off, s)
  | .page0 off => (off.zeroExtend 32, s)
  | .spRel off => ((s.sp - off.zeroExtend 16).zeroExtend 32, s)
  | .postInc n => (s.xarOf n, s.pointTo n (s.xarOf n + wide))
  | .preDec n => (s.xarOf n - wide, s.pointTo n (s.xarOf n - wide))
  | .idxAr0 n => (s.xarOf n + s.ar0.zeroExtend 32, s.setArp n)
  | .idxAr1 n => (s.xarOf n + (s.arOf .xar1).zeroExtend 32, s.setArp n)
  | .idx3 n off => (s.xarOf n + off.zeroExtend 32, s.setArp n)
  | .brInc => (s.cur, s.setAr s.st1.arp (reverseAdd (s.arOf s.st1.arp) s.ar0))
  | .brDec => (s.cur, s.setAr s.st1.arp (reverseSub (s.arOf s.st1.arp) s.ar0))
  | .setArp n => (s.cur, s.setArp n)
  | .cur => (s.cur, s)
  | .curInc => (s.cur, s.setXar s.st1.arp (s.cur + wide))
  | .curDec => (s.cur, s.setXar s.st1.arp (s.cur - wide))
  | .cur0Inc => (s.cur, s.setXar s.st1.arp (s.cur + s.ar0.zeroExtend 32))
  | .cur0Dec => (s.cur, s.setXar s.st1.arp (s.cur - s.ar0.zeroExtend 32))
  | .spInc => (s.spAddr, { s with sp := s.sp + step })
  | .spDec => ((s.sp - step).zeroExtend 32, { s with sp := s.sp - step })
  | .circ => (s.xarOf .xar6, s.circStep step)

/-- The addressing mode of a `loc` field under the present AMODE and PAGE0 (R126, R145). -/
def State.locMode (s : State) (loc : Loc) : AddrMode := decodeLoc s.st1.amode s.st1.page0 loc

/-- The registers a 32-bit operand can name: `@XARn`, `@ACC`, `@P`, `@XT` (R124, R126). -/
def isLongReg : LocReg → Bool
  | .ar _ | .al | .pl | .t => true
  | .ah | .ph | .sp => false

/-- The place a `loc` field selects, and the state after the pointer update of its mode, which happens once (R120). A
32-bit operand that names a half register is refused (U15); `@SP` in 32 bits has trapped before (R537). -/
def resolve (w : Width) (loc : Loc) (s : State) : Res (Place × State) :=
  match s.locMode loc with
  | .mem m => .ok (.mem (modeAddr w m s).1, (modeAddr w m s).2)
  | .reg r => if w = .long && !isLongReg r then .error .halfRegisterAsLong else .ok (.reg r, s)
  | .noEffectGiven => .error (.addressingMode loc)

/-- Whether an instruction with this `loc` field takes the illegal-instruction trap: PAGE0 = AMODE = 1 (R538), or a
32-bit operand `@SP` (R537). -/
def locTraps (w : Width) (loc : Loc) (s : State) : Bool :=
  (s.st1.page0 && s.st1.amode) || (w == .long && s.locMode loc == .reg .sp)

/-! ## Reading and writing a place -/

/-- A register read as a 16-bit operand (R124). -/
def readReg16 (s : State) : LocReg → Word
  | .ar n => s.arOf n
  | .ah => highWord s.acc
  | .al => lowWord s.acc
  | .ph => highWord s.p
  | .pl => lowWord s.p
  | .t => s.t
  | .sp => s.sp

/-- A register written as a 16-bit operand: the other half of a 32-bit register stays (R21, R124). -/
def writeReg16 (s : State) (r : LocReg) (v : Word) : State :=
  match r with
  | .ar n => s.setAr n v
  | .ah => s.setAx .ah v
  | .al => s.setAx .al v
  | .ph => { s with p := longOf v (lowWord s.p) }
  | .pl => { s with p := longOf (highWord s.p) v }
  | .t => s.setT v
  | .sp => { s with sp := v }

/-- A register read as a 32-bit operand (R124); `resolve` gives no other register in 32 bits. -/
def readReg32 (s : State) : LocReg → Long
  | .ar n => s.xarOf n
  | .ah | .al => s.acc
  | .ph | .pl => s.p
  | .t => s.xt
  | .sp => s.sp.zeroExtend 32

/-- A register written as a 32-bit operand (R124). -/
def writeReg32 (s : State) (r : LocReg) (v : Long) : State :=
  match r with
  | .ar n => s.setXar n v
  | .ah | .al => { s with acc := v }
  | .ph | .pl => { s with p := v }
  | .t => { s with xt := v }
  | .sp => { s with sp := lowWord v }

/-- A place read in 16 bits. -/
def readPlace16 (s : State) : Place → Res Word
  | .mem a => readData s a
  | .reg r => .ok (readReg16 s r)

/-- A place written in 16 bits. -/
def writePlace16 (s : State) (pl : Place) (v : Word) : Res State :=
  match pl with
  | .mem a => writeData s a v
  | .reg r => .ok (writeReg16 s r v)

/-- A place read in 32 bits (R109). -/
def readPlace32 (s : State) : Place → Res Long
  | .mem a => readData32 s a
  | .reg r => .ok (readReg32 s r)

/-- A place written in 32 bits (R109). -/
def writePlace32 (s : State) (pl : Place) (v : Long) : Res State :=
  match pl with
  | .mem a => writeData32 s a v
  | .reg r => .ok (writeReg32 s r v)

/-- `[loc16]` read: the value and the state after the pointer update. -/
def readLoc16 (s : State) (loc : Loc) : Res (Word × State) := do
  let (pl, s1) ← resolve .word loc s
  let v ← readPlace16 s1 pl
  return (v, s1)

/-- `[loc32]` read. -/
def readLoc32 (s : State) (loc : Loc) : Res (Long × State) := do
  let (pl, s1) ← resolve .long loc s
  let v ← readPlace32 s1 pl
  return (v, s1)

/-- `[loc16] <- v`. -/
def writeLoc16 (s : State) (loc : Loc) (v : Word) : Res State := do
  let (pl, s1) ← resolve .word loc s
  writePlace16 s1 pl v

/-- `[loc32] <- v`. -/
def writeLoc32 (s : State) (loc : Loc) (v : Long) : Res State := do
  let (pl, s1) ← resolve .long loc s
  writePlace32 s1 pl v

/-- `[loc16]` read, and the value `f` makes of it written back, with the new ST0; the pointer update happens once
(R113, R120). -/
def updateLoc16 (s : State) (loc : Loc) (f : Word → Word × St0) : Res State := do
  let (pl, s1) ← resolve .word loc s
  let v ← readPlace16 s1 pl
  writePlace16 { s1 with st0 := (f v).2 } pl (f v).1

/-- `[loc32]` read and written back. -/
def updateLoc32 (s : State) (loc : Loc) (f : Long → Long × St0) : Res State := do
  let (pl, s1) ← resolve .long loc s
  let v ← readPlace32 s1 pl
  writePlace32 { s1 with st0 := (f v).2 } pl (f v).1

/-! ## Program-space operands -/

/-- The address of a program-space operand: under RPT the temporary copy, once there is one (R362, R363, R420). -/
def State.operandAddr (s : State) (base : ProgAddr) : ProgAddr :=
  if s.repeating then s.rptAddr.getD base else base

/-- Under RPT the temporary copy of the address moves on; outside there is none (R362, R363). -/
def State.stepOperand (s : State) (a step : ProgAddr) : State :=
  if s.repeating then { s with rptAddr := some (a + step) } else s

/-! ## The shapes of the meanings -/

/-- An instruction with a `loc` field: it traps (R537, R538), or does what its rule says. -/
def withLoc (w : Width) (loc : Loc) (s : State) (body : Res State) : Host.Outcome State Fault Refusal :=
  Res.toOutcome (if locTraps w loc s then illegalTrap s else body)

/-- An instruction of `len` words that reads a `loc16` operand and changes registers. -/
def reading16 (len : ProgAddr) (loc : Loc) (s : State) (f : Word → State → State) :
    Host.Outcome State Fault Refusal :=
  withLoc .word loc s do
    let (v, s1) ← readLoc16 s loc
    return (f v s1).advance len

/-- An instruction that reads a `loc32` operand and changes registers. -/
def reading32 (len : ProgAddr) (loc : Loc) (s : State) (f : Long → State → State) :
    Host.Outcome State Fault Refusal :=
  withLoc .long loc s do
    let (v, s1) ← readLoc32 s loc
    return (f v s1).advance len

/-- An instruction that stores a value in a `loc16` operand. -/
def storing16 (len : ProgAddr) (loc : Loc) (s : State) (v : Word) : Host.Outcome State Fault Refusal :=
  withLoc .word loc s do
    let s1 ← writeLoc16 s loc v
    return s1.advance len

/-- An instruction that reads and writes a `loc16` operand. -/
def updating16 (len : ProgAddr) (loc : Loc) (s : State) (f : Word → Word × St0) :
    Host.Outcome State Fault Refusal :=
  withLoc .word loc s do
    let s1 ← updateLoc16 s loc f
    return s1.advance len

/-- An instruction that reads and writes a `loc32` operand. -/
def updating32 (len : ProgAddr) (loc : Loc) (s : State) (f : Long → Long × St0) :
    Host.Outcome State Fault Refusal :=
  withLoc .long loc s do
    let s1 ← updateLoc32 s loc f
    return s1.advance len

/-- An instruction with no `loc` field that only changes registers. -/
def register (len : ProgAddr) (s : State) : Host.Outcome State Fault Refusal := .next (s.advance len)

end Sys2Proof.Machine
end

