-- ==== Sys2Proof/Machine/Move.lean ====
section
/-! DEFINITION. The moves, the interrupt-register accesses, the stack instructions and the program-space moves
(45_move.md). -/

namespace Sys2Proof.Machine

/-- ACC <- v with N and Z; C, V and OVC unchanged (R391). -/
def State.moveAcc (s : State) (v : Long) : State := s.setAcc (v, setNZ s.st0 v)

/-! ## Loading ACC -/

/-- R391, shift 0. -/
def execMovAccLoc16 (loc : Loc) (s : State) : Host.Outcome State Fault Refusal :=
  reading16 1 loc s fun v t => t.moveAcc (shifted16 t.st0 v 0)

/-- R391, shift 1 to 15. -/
def execMovAccLoc16Shl (sh : BitVec 4) (loc : Loc) (s : State) : Host.Outcome State Fault Refusal :=
  reading16 2 loc s fun v t => t.moveAcc (shifted16 t.st0 v sh.toNat)

/-- R391, shift 16. -/
def execMovAccLoc16Shl16 (loc : Loc) (s : State) : Host.Outcome State Fault Refusal :=
  reading16 1 loc s fun v t => t.moveAcc (shifted16 t.st0 v 16)

/-- R392. -/
def execMovAccImmShl (sh : BitVec 4) (c : BitVec 16) (s : State) : Host.Outcome State Fault Refusal :=
  register 2 (s.moveAcc (shifted16 s.st0 c sh.toNat))

/-- R393. -/
def execMovAccLoc16ShlT (loc : Loc) (s : State) : Host.Outcome State Fault Refusal :=
  reading16 2 loc s fun v t => t.moveAcc (shifted16 t.st0 v (count4 t.t))

/-! ## Storing ACC and P -/

/-- R394, shift 1. -/
def execMovLoc16AccShl1 (loc : Loc) (s : State) : Host.Outcome State Fault Refusal :=
  storing16 1 loc s (lowWord (s.acc <<< 1))

/-- R394, shift SSS + 1. -/
def execMovLoc16AccShl (sh : BitVec 3) (loc : Loc) (s : State) : Host.Outcome State Fault Refusal :=
  storing16 2 loc s (lowWord (s.acc <<< immCount sh))

/-- R395, shift 1. -/
def execMovhLoc16AccShl1 (loc : Loc) (s : State) : Host.Outcome State Fault Refusal :=
  storing16 1 loc s (highWord (s.acc <<< 1))

/-- R395, shift SSS + 1. -/
def execMovhLoc16AccShl (sh : BitVec 3) (loc : Loc) (s : State) : Host.Outcome State Fault Refusal :=
  storing16 2 loc s (highWord (s.acc <<< immCount sh))

/-- R396. -/
def execMovLoc16P (loc : Loc) (s : State) : Host.Outcome State Fault Refusal :=
  storing16 1 loc s (lowWord s.pShifted)

/-- R397. -/
def execMovhLoc16P (loc : Loc) (s : State) : Host.Outcome State Fault Refusal :=
  storing16 1 loc s (highWord s.pShifted)

/-! ## Conditional moves -/

/-- The stop of an instruction that tests NBIO (R150, D26). -/
def condKnown (c : Cond) : Res Unit := if c = .nbio then .error .nbioCondition else .ok ()

/-- A 16-bit conditional store: the pointer update happens whether or not the condition holds, and a condition that
tests V clears it (R150, R398). -/
def condStore16 (cond : Cond) (loc : Loc) (s : State) (v : Word) : Host.Outcome State Fault Refusal :=
  withLoc .word loc s do
    condKnown cond
    let (pl, s1) ← resolve .word loc s
    let s2 := { s1 with st0 := condFlags s.st0 cond }
    let s3 ← if condHolds s.st0 cond then writePlace16 s2 pl v else .ok s2
    return s3.advance 2

/-- R398. -/
def execMovLoc16AxCond (ax : AccHalf) (cond : Cond) (loc : Loc) (s : State) : Host.Outcome State Fault Refusal :=
  condStore16 cond loc s (s.ax ax)

/-- R399: the constant is zero-extended. -/
def execMovbLoc16Cond (cond : Cond) (c : BitVec 8) (loc : Loc) (s : State) : Host.Outcome State Fault Refusal :=
  condStore16 cond loc s (c.zeroExtend 16)

/-- R400. -/
def execMovlLoc32AccCond (cond : Cond) (loc : Loc) (s : State) : Host.Outcome State Fault Refusal :=
  withLoc .long loc s do
    condKnown cond
    let (pl, s1) ← resolve .long loc s
    let s2 := { s1 with st0 := condFlags s.st0 cond }
    let s3 ← if condHolds s.st0 cond then writePlace32 s2 pl s.acc else .ok s2
    return s3.advance 2

/-! ## Auxiliary registers -/

/-- R401, carried by `MOVZ ARn,loc16`: ARn <- [loc16], ARnH <- 0 (log 9). -/
def execMovArx (n : XReg) (loc : Loc) (s : State) : Host.Outcome State Fault Refusal :=
  reading16 1 loc s fun v t => t.setXar n (v.zeroExtend 32)

/-- R402, carried by `MOVB XARn,#8bit`: XARn <- the constant, zero-extended (log 9). -/
def execMovbAr (n : XReg) (c : BitVec 8) (s : State) : Host.Outcome State Fault Refusal :=
  register 1 (s.setXar n (c.zeroExtend 32))

/-! ## Interrupt registers -/

/-- R405. -/
def execMovLoc16Ier (loc : Loc) (s : State) : Host.Outcome State Fault Refusal := storing16 1 loc s s.ier

/-- R406. -/
def execMovIerLoc16 (loc : Loc) (s : State) : Host.Outcome State Fault Refusal :=
  reading16 1 loc s fun v t => { t with ier := v }

/-- R407. -/
def execOrIer (c : BitVec 16) (s : State) : Host.Outcome State Fault Refusal := register 2 { s with ier := s.ier ||| c }

/-- R408. -/
def execAndIer (c : BitVec 16) (s : State) : Host.Outcome State Fault Refusal := register 2 { s with ier := s.ier &&& c }

/-- R409: a software request of each interrupt whose bit is set. -/
def execOrIfr (c : BitVec 16) (s : State) : Host.Outcome State Fault Refusal := register 2 { s with ifr := s.ifr ||| c }

/-- R410. -/
def execAndIfr (c : BitVec 16) (s : State) : Host.Outcome State Fault Refusal := register 2 { s with ifr := s.ifr &&& c }

/-! ## The stack -/

/-- The `loc` field of the pop mode `*--SP` (R126). -/
def locPop : Loc := 0xBE#8

/-- A 16-bit push by an instruction of one word (R390). -/
def pushing16 (s : State) (v : Word) : Res State := do
  let s1 ← push16 s v
  return s1.advance 1

/-- A 32-bit push by an instruction of one word (R390). -/
def pushing32 (s : State) (v : Long) : Res State := do
  let s1 ← push32 s v
  return s1.advance 1

/-- A 16-bit pop by an instruction of one word (R390). -/
def popping16 (s : State) (f : Word → State → State) : Res State := do
  let (v, s1) ← pop16 s
  return (f v s1).advance 1

/-- A 32-bit pop by an instruction of one word (R390). -/
def popping32 (s : State) (f : Long → State → State) : Res State := do
  let (v, s1) ← pop32 s
  return (f v s1).advance 1

/-- R411. -/
def execPushIfr (s : State) : Host.Outcome State Fault Refusal := (pushing16 s s.ifr).toOutcome

/-- R412. -/
def execPushDbgier (s : State) : Host.Outcome State Fault Refusal := (pushing16 s s.dbgier).toOutcome

/-- R413. -/
def execPopDbgier (s : State) : Host.Outcome State Fault Refusal :=
  (popping16 s fun v t => { t with dbgier := v }).toOutcome

/-- PUSH XARn, the `loc` encoding `MOVL *SP++,XARn` (R414, R538). -/
def pushXar (n : XReg) (s : State) : Host.Outcome State Fault Refusal :=
  withLoc .long locPush s (pushing32 s (s.xarOf n))

/-- POP XARn, the `loc` encoding `MOVL XARn,*--SP` (R414, R538). -/
def popXar (n : XReg) (s : State) : Host.Outcome State Fault Refusal :=
  withLoc .long locPop s (popping32 s fun v t => t.setXar n v)

/-- R414. -/
def execPushXar0 (s : State) : Host.Outcome State Fault Refusal := pushXar .xar0 s

/-- R414. -/
def execPushXar1 (s : State) : Host.Outcome State Fault Refusal := pushXar .xar1 s

/-- R414. -/
def execPushXar2 (s : State) : Host.Outcome State Fault Refusal := pushXar .xar2 s

/-- R414. -/
def execPushXar3 (s : State) : Host.Outcome State Fault Refusal := pushXar .xar3 s

/-- R414. -/
def execPushXar4 (s : State) : Host.Outcome State Fault Refusal := pushXar .xar4 s

/-- R414. -/
def execPushXar5 (s : State) : Host.Outcome State Fault Refusal := pushXar .xar5 s

/-- R414. -/
def execPushXar6 (s : State) : Host.Outcome State Fault Refusal := pushXar .xar6 s

/-- R414. -/
def execPushXar7 (s : State) : Host.Outcome State Fault Refusal := pushXar .xar7 s

/-- R414. -/
def execPopXar0 (s : State) : Host.Outcome State Fault Refusal := popXar .xar0 s

/-- R414. -/
def execPopXar1 (s : State) : Host.Outcome State Fault Refusal := popXar .xar1 s

/-- R414. -/
def execPopXar2 (s : State) : Host.Outcome State Fault Refusal := popXar .xar2 s

/-- R414. -/
def execPopXar3 (s : State) : Host.Outcome State Fault Refusal := popXar .xar3 s

/-- R414. -/
def execPopXar4 (s : State) : Host.Outcome State Fault Refusal := popXar .xar4 s

/-- R414. -/
def execPopXar5 (s : State) : Host.Outcome State Fault Refusal := popXar .xar5 s

/-- R414. -/
def execPopXar6 (s : State) : Host.Outcome State Fault Refusal := popXar .xar6 s

/-- R414. -/
def execPopXar7 (s : State) : Host.Outcome State Fault Refusal := popXar .xar7 s

/-- R415, the `loc` encoding `MOVL *SP++,XT` (R538). -/
def execPushXt (s : State) : Host.Outcome State Fault Refusal := withLoc .long locPush s (pushing32 s s.xt)

/-- R415, the `loc` encoding `MOVL XT,*--SP` (R538). -/
def execPopXt (s : State) : Host.Outcome State Fault Refusal :=
  withLoc .long locPop s (popping32 s fun v t => { t with xt := v })

/-- R416: AR1H:AR0H, AR0H the low word. -/
def execPushAr1hAr0h (s : State) : Host.Outcome State Fault Refusal :=
  (pushing32 s (longOf (highWord (s.xarOf .xar1)) (highWord (s.xarOf .xar0)))).toOutcome

/-- R417: AR0 and AR1 unchanged. -/
def execPopAr1hAr0h (s : State) : Host.Outcome State Fault Refusal :=
  (popping32 s fun v t =>
    (t.setXar .xar0 (longOf (lowWord v) (t.arOf .xar0))).setXar .xar1 (longOf (highWord v) (t.arOf .xar1))).toOutcome

/-- R418. -/
def execPushSt0 (s : State) : Host.Outcome State Fault Refusal := (pushing16 s s.st0Word).toOutcome

/-- R418. -/
def execPopSt0 (s : State) : Host.Outcome State Fault Refusal :=
  (popping16 s fun v t => { t with st0 := St0.ofWord v }).toOutcome

/-- R418. -/
def execPushSt1 (s : State) : Host.Outcome State Fault Refusal := (pushing16 s s.st1Word).toOutcome

/-- R418: IDLESTAT, LOOP and the reserved bit keep their values. -/
def execPopSt1 (s : State) : Host.Outcome State Fault Refusal :=
  (popping16 s fun v t => { t with st1 := t.st1.load v }).toOutcome

/-- R421, the `loc` encoding `MOV *SP++,IER` (R538). -/
def execPushIer (s : State) : Host.Outcome State Fault Refusal := withLoc .word locPush s (pushing16 s s.ier)

/-! ## Program space through XAR7 -/

/-- R420: under RPT a temporary copy of the address advances (log 22). Where the `loc` mode itself moves XAR7 the
program address is XAR7 before that (DESIGN CHOICE, log 31). -/
def execPread (loc : Loc) (s : State) : Host.Outcome State Fault Refusal :=
  withLoc .word loc s do
    let (pl, s1) ← resolve .word loc s
    let a := s.operandAddr s.xar7Addr
    let v ← readProg s1 a
    let s2 ← writePlace16 (s1.stepOperand a 1) pl v
    return s2.advance 1

/-- R422: under RPT a temporary copy of the address advances (log 22). Where the `loc` mode itself moves XAR7 the
program address is XAR7 before that (DESIGN CHOICE, log 31). -/
def execPwrite (loc : Loc) (s : State) : Host.Outcome State Fault Refusal :=
  withLoc .word loc s do
    let (v, s1) ← readLoc16 s loc
    let a := s.operandAddr s.xar7Addr
    let s2 ← writeProg (s1.stepOperand a 1) a v
    return s2.advance 1

end Sys2Proof.Machine
end

