-- ==== Sys2Proof/Machine/AccArith.lean ====
section
/-! DEFINITION. The accumulator arithmetic instructions (41_acc_arith.md). -/

namespace Sys2Proof.Machine

/-- ACC <- AddAcc(ACC, v, 0) (R75). -/
def State.accAdd (s : State) (v : Long) : State := s.setAcc (addAcc s.st0 s.acc v false)

/-- ACC <- SubAcc(ACC, v, 0) (R76). -/
def State.accSub (s : State) (v : Long) : State := s.setAcc (subAcc s.st0 s.acc v false)

/-- P and ST0 written. -/
def State.setPF (s : State) (r : Long × St0) : State := { s with p := r.1, st0 := r.2 }

/-! ## Additions -/

/-- R211, shift 0. -/
def execAddAccLoc16 (loc : Loc) (s : State) : Host.Outcome State Fault Refusal :=
  reading16 1 loc s fun v t => t.accAdd (shifted16 t.st0 v 0)

/-- R211, shift 1 to 15. -/
def execAddAccLoc16Shl (sh : BitVec 4) (loc : Loc) (s : State) : Host.Outcome State Fault Refusal :=
  reading16 2 loc s fun v t => t.accAdd (shifted16 t.st0 v sh.toNat)

/-- R211, shift 16: a carry sets C, no carry leaves it. -/
def execAddAccLoc16Shl16 (loc : Loc) (s : State) : Host.Outcome State Fault Refusal :=
  reading16 1 loc s fun v t => t.setAcc (keepCarrySet t.st0 (addAcc t.st0 t.acc (shifted16 t.st0 v 16) false))

/-- R212. -/
def execAddAccImmShl (sh : BitVec 4) (c : BitVec 16) (s : State) : Host.Outcome State Fault Refusal :=
  register 2 (s.accAdd (shifted16 s.st0 c sh.toNat))

/-- R213. -/
def execAddAccLoc16ShlT (loc : Loc) (s : State) : Host.Outcome State Fault Refusal :=
  reading16 2 loc s fun v t => t.accAdd (shifted16 t.st0 v (count4 t.t))

/-- R214: the constant is zero-extended. -/
def execAddbAcc (c : BitVec 8) (s : State) : Host.Outcome State Fault Refusal :=
  register 1 (s.accAdd (c.zeroExtend 32))

/-- R215: ACC + [loc32] + C. -/
def execAddclAcc (loc : Loc) (s : State) : Host.Outcome State Fault Refusal :=
  reading32 2 loc s fun v t => t.setAcc (addAcc t.st0 t.acc v t.st0.c)

/-- R216: ACC + [loc16] + C, the operand zero-extended. -/
def execAddcuAcc (loc : Loc) (s : State) : Host.Outcome State Fault Refusal :=
  reading16 1 loc s fun v t => t.setAcc (addAcc t.st0 t.acc (v.zeroExtend 32) t.st0.c)

/-- R217. -/
def execAddlAcc (loc : Loc) (s : State) : Host.Outcome State Fault Refusal :=
  reading32 1 loc s fun v t => t.accAdd v

/-- R218: [loc32] <- AddAcc([loc32], ACC, 0). -/
def execAddlLoc32Acc (loc : Loc) (s : State) : Host.Outcome State Fault Refusal :=
  updating32 2 loc s fun v => addAcc s.st0 v s.acc false

/-- R219: the operand is zero-extended. -/
def execAdduAcc (loc : Loc) (s : State) : Host.Outcome State Fault Refusal :=
  reading16 1 loc s fun v t => t.accAdd (v.zeroExtend 32)

/-- R220. -/
def execAddulAcc (loc : Loc) (s : State) : Host.Outcome State Fault Refusal :=
  reading32 2 loc s fun v t => t.setAcc (addU32 t.st0 t.acc v)

/-- R221: PM is not applied. -/
def execAddulP (loc : Loc) (s : State) : Host.Outcome State Fault Refusal :=
  reading32 2 loc s fun v t => t.setPF (addU32 t.st0 t.p v)

/-! ## Subtractions -/

/-- R222, shift 0. -/
def execSubAccLoc16 (loc : Loc) (s : State) : Host.Outcome State Fault Refusal :=
  reading16 1 loc s fun v t => t.accSub (shifted16 t.st0 v 0)

/-- R222, shift 1 to 15. -/
def execSubAccLoc16Shl (sh : BitVec 4) (loc : Loc) (s : State) : Host.Outcome State Fault Refusal :=
  reading16 2 loc s fun v t => t.accSub (shifted16 t.st0 v sh.toNat)

/-- R222, shift 16: a borrow clears C, no borrow leaves it. -/
def execSubAccLoc16Shl16 (loc : Loc) (s : State) : Host.Outcome State Fault Refusal :=
  reading16 1 loc s fun v t => t.setAcc (keepCarryClear t.st0 (subAcc t.st0 t.acc (shifted16 t.st0 v 16) false))

/-- R223. -/
def execSubAccImmShl (sh : BitVec 4) (c : BitVec 16) (s : State) : Host.Outcome State Fault Refusal :=
  register 2 (s.accSub (shifted16 s.st0 c sh.toNat))

/-- R224. -/
def execSubAccLoc16ShlT (loc : Loc) (s : State) : Host.Outcome State Fault Refusal :=
  reading16 2 loc s fun v t => t.accSub (shifted16 t.st0 v (count4 t.t))

/-- R225. -/
def execSubbAcc (c : BitVec 8) (s : State) : Host.Outcome State Fault Refusal :=
  register 1 (s.accSub (c.zeroExtend 32))

/-- R226: ACC - ([loc32] + NOT C). -/
def execSubblAcc (loc : Loc) (s : State) : Host.Outcome State Fault Refusal :=
  reading32 2 loc s fun v t => t.setAcc (subAcc t.st0 t.acc v (!t.st0.c))

/-- R227: ACC - ([loc16] + NOT C), the operand zero-extended. -/
def execSbbuAcc (loc : Loc) (s : State) : Host.Outcome State Fault Refusal :=
  reading16 1 loc s fun v t => t.setAcc (subAcc t.st0 t.acc (v.zeroExtend 32) (!t.st0.c))

/-- R228. -/
def execSublAcc (loc : Loc) (s : State) : Host.Outcome State Fault Refusal :=
  reading32 1 loc s fun v t => t.accSub v

/-- R229: [loc32] <- SubAcc([loc32], ACC, 0). -/
def execSublLoc32Acc (loc : Loc) (s : State) : Host.Outcome State Fault Refusal :=
  updating32 2 loc s fun v => subAcc s.st0 v s.acc false

/-- R230: [loc32] <- SubAcc(ACC, [loc32], 0). -/
def execSubrlLoc32Acc (loc : Loc) (s : State) : Host.Outcome State Fault Refusal :=
  updating32 2 loc s fun v => subAcc s.st0 s.acc v false

/-- R231. -/
def execSubuAcc (loc : Loc) (s : State) : Host.Outcome State Fault Refusal :=
  reading16 1 loc s fun v t => t.accSub (v.zeroExtend 32)

/-- R232. -/
def execSubulAcc (loc : Loc) (s : State) : Host.Outcome State Fault Refusal :=
  reading32 2 loc s fun v t => t.setAcc (subU32 t.st0 t.acc v)

/-- R233: PM is not applied. -/
def execSubulP (loc : Loc) (s : State) : Host.Outcome State Fault Refusal :=
  reading32 2 loc s fun v t => t.setPF (subU32 t.st0 t.p v)

/-! ## Compare, P as the second operand, maximum and minimum -/

/-- R234. -/
def execCmplAcc (loc : Loc) (s : State) : Host.Outcome State Fault Refusal :=
  reading32 1 loc s fun v t => { t with st0 := cmpFlags t.st0 t.acc v }

/-- R236: the encoding is a `loc` encoding of MOVA, so it traps with PAGE0 = AMODE = 1 (R538). -/
def execAddAccP (s : State) : Host.Outcome State Fault Refusal :=
  withLoc .word locT s (.ok ((s.accAdd s.pShifted).advance 1))

/-- R237, a `loc` encoding of MOVS. -/
def execSubAccP (s : State) : Host.Outcome State Fault Refusal :=
  withLoc .word locT s (.ok ((s.accSub s.pShifted).advance 1))

/-- R238. -/
def execCmplAccP (s : State) : Host.Outcome State Fault Refusal :=
  register 1 { s with st0 := cmpFlags s.st0 s.acc s.pShifted }

/-- R239, a `loc` encoding of MOVP. -/
def execMovAccP (s : State) : Host.Outcome State Fault Refusal :=
  withLoc .word locT s (.ok ((s.setAcc (s.pShifted, setNZ s.st0 s.pShifted)).advance 1))

/-- R240. -/
def execMaxlAcc (loc : Loc) (s : State) : Host.Outcome State Fault Refusal :=
  reading32 2 loc s fun v t => t.setAcc (maxOp t.st0 t.acc v)

/-- R241. -/
def execMinlAcc (loc : Loc) (s : State) : Host.Outcome State Fault Refusal :=
  reading32 2 loc s fun v t => t.setAcc (minOp t.st0 t.acc v)

/-! ## Unary operations -/

/-- R242. -/
def execAbsAcc (s : State) : Host.Outcome State Fault Refusal := register 1 (s.setAcc (absOp s.st0 s.acc))

/-- R243. -/
def execAbstcAcc (s : State) : Host.Outcome State Fault Refusal := register 1 (s.setAcc (abstcOp s.st0 s.acc))

/-- R244. -/
def execNegAcc (s : State) : Host.Outcome State Fault Refusal := register 1 (s.setAcc (negOp s.st0 s.acc))

/-- R245: as NEG ACC if TC = 1, else only N and Z are written. -/
def execNegtcAcc (s : State) : Host.Outcome State Fault Refusal :=
  register 1 (if s.st0.tc then s.setAcc (negOp s.st0 s.acc) else { s with st0 := setNZ s.st0 s.acc })

/-- R246. -/
def execNeg64AccP (s : State) : Host.Outcome State Fault Refusal := register 1 (s.setAccPF (negOp s.st0 s.accP))

/-- R247. -/
def execSatAcc (s : State) : Host.Outcome State Fault Refusal := register 1 (s.setAcc (satOp s.st0 s.acc))

/-- R248. -/
def execSat64AccP (s : State) : Host.Outcome State Fault Refusal := register 1 (s.setAccPF (satOp s.st0 s.accP))

/-- R249. -/
def execTestAcc (s : State) : Host.Outcome State Fault Refusal := register 1 { s with st0 := setNZ s.st0 s.acc }

/-- R250: ACC, P and OVC zeroed, Z set and N cleared. -/
def execZapa (s : State) : Host.Outcome State Fault Refusal :=
  register 1 { s with acc := 0, p := 0, st0 := { s.st0 with ovc := 0, z := true, n := false } }

/-! ## Conditional subtract, normalise, count sign bits -/

/-- R251. -/
def execSubcu (loc : Loc) (s : State) : Host.Outcome State Fault Refusal :=
  reading16 1 loc s fun v t => t.setAcc (subcuOp t.st0 t.acc v)

/-- R252. -/
def execSubcul (loc : Loc) (s : State) : Host.Outcome State Fault Refusal :=
  reading32 2 loc s fun v t =>
    let r := subculOp t.st0 t.acc t.p v
    { t with acc := r.1, p := r.2.1, st0 := r.2.2 }

/-- NORM (R37, R253): TC is set where ACC is 0 or its bits 31 and 30 differ; else ACC is shifted left by 1 and the
register is updated. -/
def State.norm (s : State) (update : State → State) : State :=
  if s.acc = 0 ∨ s.acc.getLsbD 31 ≠ s.acc.getLsbD 30 then
    { s with st0 := setNZ { s.st0 with tc := true } s.acc }
  else
    { update s with acc := s.acc <<< 1, st0 := setNZ { s.st0 with tc := false } (s.acc <<< 1) }

/-- The current auxiliary register moved by a signed amount, all 32 bits (R126, R254, R448). -/
def State.moveCur (s : State) (d : Long) : State := s.setXar s.st1.arp (s.cur + d)

/-- R253, `XARn++`. -/
def execNormXarInc (n : XReg) (s : State) : Host.Outcome State Fault Refusal :=
  register 1 (s.norm fun t => t.setXar n (t.xarOf n + 1))

/-- R253, `XARn--`. -/
def execNormXarDec (n : XReg) (s : State) : Host.Outcome State Fault Refusal :=
  register 1 (s.norm fun t => t.setXar n (t.xarOf n - 1))

/-- R254, `*`. -/
def execNormInd (s : State) : Host.Outcome State Fault Refusal := register 1 (s.norm id)

/-- R254, `*++`. -/
def execNormIndInc (s : State) : Host.Outcome State Fault Refusal := register 1 (s.norm fun t => t.moveCur 1)

/-- R254, `*--`. -/
def execNormIndDec (s : State) : Host.Outcome State Fault Refusal := register 1 (s.norm fun t => t.moveCur (-1))

/-- R254, `*0++`. -/
def execNormInd0Inc (s : State) : Host.Outcome State Fault Refusal :=
  register 1 (s.norm fun t => t.moveCur (t.ar0.zeroExtend 32))

/-- R254, `*0--`. -/
def execNormInd0Dec (s : State) : Host.Outcome State Fault Refusal :=
  register 1 (s.norm fun t => t.moveCur (-(t.ar0.zeroExtend 32)))

/-- R255: T <- the count, N and Z from ACC, TC <- N; TL unchanged. -/
def execCsb (s : State) : Host.Outcome State Fault Refusal :=
  let t := s.setT (BitVec.ofNat 16 (signBits s.acc))
  register 1 { t with st0 := setNZ { s.st0 with tc := s.acc.msb } s.acc }

end Sys2Proof.Machine
end

