-- ==== Sys2Proof/Machine/Multiply.lean ====
section
/-! DEFINITION. The multiply and multiply-accumulate instructions (44_multiply.md). -/

namespace Sys2Proof.Machine

/-- ACC <- AddAcc(ACC, PShift(P), 0): the accumulation of the previous product (R350). -/
def State.accAddP (s : State) : State := s.accAdd s.pShifted

/-- ACC <- SubAcc(ACC, PShift(P), 0) (R350). -/
def State.accSubP (s : State) : State := s.accSub s.pShifted

/-- P <- Mul16s(a, b). -/
def State.setProduct (s : State) (a b : Word) : State := { s with p := mul16s a b }

/-- P <- MulHi(a, b). -/
def State.setProductHi (s : State) (a b : Long) : State := { s with p := mulHi a b }

/-- P <- IProd(x), shifted by PM on the way in (R351). -/
def State.setIProd (s : State) (x : Quad) : State := { s with p := iprod s.st0.pm s.st1.amode x }

/-- ACC <- AddU32(ACC, P), P unshifted (R366, R369). -/
def State.accAddU (s : State) : State := s.setAcc (addU32 s.st0 s.acc s.p)

/-- ACC <- SubU32(ACC, P), P unshifted (R367). -/
def State.accSubU (s : State) : State := s.setAcc (subU32 s.st0 s.acc s.p)

/-- ACC <- v with N and Z (R357). -/
def State.loadAcc (s : State) (v : Long) : State := s.setAcc (v, setNZ s.st0 v)

/-! ## Program-space operands -/

/-- Whether a `loc` field uses XAR7: it names XAR7 or AR7, or it is a mode of the current auxiliary register while
ARP = 7, or a mode whose pointer is XAR7 (R363, U15; log 17). -/
def State.locUsesXar7 (s : State) (loc : Loc) : Bool :=
  match s.locMode loc with
  | .mem m =>
    match m with
    | .postInc n | .preDec n | .idxAr0 n | .idxAr1 n | .idx3 n _ => n == .xar7
    | .brInc | .brDec | .setArp _ | .cur | .curInc | .curDec | .cur0Inc | .cur0Dec => s.st1.arp == .xar7
    | .direct6 _ | .direct7 _ | .page0 _ | .spRel _ | .spInc | .spDec | .circ => false
  | .reg r => r == .ar .xar7
  | .noEffectGiven => false

/-- The stop of an operand combination the text does not describe (R363, U15). -/
def State.xar7Free (s : State) (loc : Loc) : Res Unit :=
  if s.locUsesXar7 loc then .error .operandUsesXar7 else .ok ()

/-- XAR7 moved past the operand of a `*XAR7++` form (R125). -/
def State.bumpXar7 (s : State) (step : Long) : State := s.setXar .xar7 (s.xarOf .xar7 + step)

/-- The 16 x 16 multiply-accumulate with a program word: ACC accumulates the old product, T is loaded, P is T times
the program word (R362, R363, R370). -/
def State.mac (s : State) (v m : Word) : State := ((s.accAddP).setT v).setProduct v m

/-! ## Load T and accumulate -/

/-- R352. -/
def execMova (loc : Loc) (s : State) : Host.Outcome State Fault Refusal :=
  reading16 1 loc s fun v t => t.accAddP.setT v

/-- R353: T is also stored at the next address; a register operand has none (U15). -/
def execMovad (loc : Loc) (s : State) : Host.Outcome State Fault Refusal :=
  withLoc .word loc s do
    let (pl, s1) ← resolve .word loc s
    match pl with
    | .reg _ => .error .noNextAddress
    | .mem a =>
      let v ← readData s1 a
      let s2 ← writeData (s1.accAddP.setT v) (a + 1) v
      return s2.advance 1

/-- R354: ACC <- PShift(P), N and Z from it. -/
def execMovp (loc : Loc) (s : State) : Host.Outcome State Fault Refusal :=
  reading16 1 loc s fun v t => (t.loadAcc t.pShifted).setT v

/-- R355. -/
def execMovs (loc : Loc) (s : State) : Host.Outcome State Fault Refusal :=
  reading16 1 loc s fun v t => t.accSubP.setT v

/-! ## 16 x 16 -/

/-- R356. -/
def execMpyPT (loc : Loc) (s : State) : Host.Outcome State Fault Refusal :=
  reading16 1 loc s fun v t => t.setProduct t.t v

/-- R357, `MPY P,loc16,#16bit`: T is not loaded. -/
def execMpyPImm (loc : Loc) (c : BitVec 16) (s : State) : Host.Outcome State Fault Refusal :=
  reading16 2 loc s fun v t => t.setProduct v c

/-- R357, `MPY ACC,T,loc16`. -/
def execMpyAccT (loc : Loc) (s : State) : Host.Outcome State Fault Refusal :=
  reading16 1 loc s fun v t => t.loadAcc (mul16s t.t v)

/-- R357, `MPY ACC,loc16,#16bit`: T is loaded. -/
def execMpyAccImm (loc : Loc) (c : BitVec 16) (s : State) : Host.Outcome State Fault Refusal :=
  reading16 2 loc s fun v t => (t.loadAcc (mul16s v c)).setT v

/-- R358. -/
def execMpyaPImm (loc : Loc) (c : BitVec 16) (s : State) : Host.Outcome State Fault Refusal :=
  reading16 2 loc s fun v t => (t.accAddP.setT v).setProduct v c

/-- R359. -/
def execMpyaPT (loc : Loc) (s : State) : Host.Outcome State Fault Refusal :=
  reading16 1 loc s fun v t => t.accAddP.setProduct t.t v

/-- R360. -/
def execMpysPT (loc : Loc) (s : State) : Host.Outcome State Fault Refusal :=
  reading16 1 loc s fun v t => t.accSubP.setProduct t.t v

/-- R361, `SQRA`. -/
def execSqra (loc : Loc) (s : State) : Host.Outcome State Fault Refusal :=
  reading16 2 loc s fun v t => (t.accAddP.setT v).setProduct v v

/-- R361, `SQRS`. -/
def execSqrs (loc : Loc) (s : State) : Host.Outcome State Fault Refusal :=
  reading16 2 loc s fun v t => (t.accSubP.setT v).setProduct v v

/-! ## 16 x 16 with a program word -/

/-- A multiply-accumulate whose program address is a constant (R362, R370). -/
def macConst (base : ProgAddr) (loc : Loc) (s : State) : Host.Outcome State Fault Refusal :=
  withLoc .word loc s do
    let (v, s1) ← readLoc16 s loc
    let a := s.operandAddr base
    let m ← readProg s1 a
    return ((s1.mac v m).stepOperand a 1).advance 2

/-- R362. -/
def execMacPma (loc : Loc) (c : BitVec 16) (s : State) : Host.Outcome State Fault Refusal := macConst (pmaLow c) loc s

/-- R363, `*XAR7`: under RPT a temporary copy of the address advances, XAR7 stays. -/
def execMacXar7 (loc : Loc) (s : State) : Host.Outcome State Fault Refusal :=
  withLoc .word loc s do
    s.xar7Free loc
    let (v, s1) ← readLoc16 s loc
    let a := s.operandAddr s.xar7Addr
    let m ← readProg s1 a
    return ((s1.mac v m).stepOperand a 1).advance 2

/-- R363, `*XAR7++`. -/
def execMacXar7Inc (loc : Loc) (s : State) : Host.Outcome State Fault Refusal :=
  withLoc .word loc s do
    s.xar7Free loc
    let (v, s1) ← readLoc16 s loc
    let m ← readProg s1 s.xar7Addr
    return ((s1.mac v m).bumpXar7 1).advance 2

/-- R370. -/
def execXmac (loc : Loc) (c : BitVec 16) (s : State) : Host.Outcome State Fault Refusal := macConst (pmaHigh c) loc s

/-- R371: as XMAC, and T is stored at the address after the operand's (U15: a register has none). -/
def execXmacd (loc : Loc) (c : BitVec 16) (s : State) : Host.Outcome State Fault Refusal :=
  withLoc .word loc s do
    let (pl, s1) ← resolve .word loc s
    match pl with
    | .reg _ => .error .noNextAddress
    | .mem d =>
      let v ← readData s1 d
      let a := s.operandAddr (pmaHigh c)
      let m ← readProg s1 a
      let s2 ← writeData ((s1.mac v m).stepOperand a 1) (d + 1) v
      return s2.advance 2

/-! ## Dual 16 x 16 -/

/-- The two halves of DMAC: ACC takes the product of the high words with the flags, P that of the low words (R364). -/
def State.dmac (s : State) (v m : Long) : State :=
  let sh := pshift s.st0.pm s.st1.amode
  let lows := s.p + sh (mul16s (lowWord v) (lowWord m))
  { s.accAdd (sh (mul16s (highWord v) (highWord m))) with xt := v, p := lows }

/-- A multiply-accumulate of a `loc32` operand with 32 bits of program space through `*XAR7`: under RPT a temporary
copy of the address advances by `step` (R364, R369, R374). -/
def macLong (loc : Loc) (s : State) (step : ProgAddr) (f : Long → Long → State → State) :
    Host.Outcome State Fault Refusal :=
  withLoc .long loc s do
    s.xar7Free loc
    let (v, s1) ← readLoc32 s loc
    let a := s.operandAddr s.xar7Addr
    let m ← readProg32 s1 a
    return ((f v m s1).stepOperand a step).advance 2

/-- The same through `*XAR7++`, XAR7 going up by 2 (R125, R364, R369, R374). -/
def macLongInc (loc : Loc) (s : State) (f : Long → Long → State → State) : Host.Outcome State Fault Refusal :=
  withLoc .long loc s do
    s.xar7Free loc
    let (v, s1) ← readLoc32 s loc
    let m ← readProg32 s1 s.xar7Addr
    return ((f v m s1).bumpXar7 2).advance 2

/-- R364, `*XAR7`: the rule names no advance of the address under RPT (log 22). -/
def execDmacXar7 (loc : Loc) (s : State) : Host.Outcome State Fault Refusal :=
  macLong loc s 0 fun v m t => t.dmac v m

/-- R364, `*XAR7++`. -/
def execDmacXar7Inc (loc : Loc) (s : State) : Host.Outcome State Fault Refusal :=
  macLongInc loc s fun v m t => t.dmac v m

/-! ## 32 x 32 -/

/-- R365. -/
def execImpyl (loc : Loc) (s : State) : Host.Outcome State Fault Refusal :=
  reading32 2 loc s fun v t => t.setIProd (mul32s t.xt v)

/-- R366. -/
def execImpyal (loc : Loc) (s : State) : Host.Outcome State Fault Refusal :=
  reading32 2 loc s fun v t => t.accAddU.setIProd (mul32s t.xt v)

/-- R367. -/
def execImpysl (loc : Loc) (s : State) : Host.Outcome State Fault Refusal :=
  reading32 2 loc s fun v t => t.accSubU.setIProd (mul32s t.xt v)

/-- R368: XT signed, the operand unsigned. -/
def execImpyxul (loc : Loc) (s : State) : Host.Outcome State Fault Refusal :=
  reading32 2 loc s fun v t => t.setIProd (mul32su t.xt v)

/-- R369, `*XAR7`. -/
def execImaclXar7 (loc : Loc) (s : State) : Host.Outcome State Fault Refusal :=
  macLong loc s 2 fun v m t => t.accAddU.setIProd (mul32s v m)

/-- R369, `*XAR7++`. -/
def execImaclXar7Inc (loc : Loc) (s : State) : Host.Outcome State Fault Refusal :=
  macLongInc loc s fun v m t => t.accAddU.setIProd (mul32s v m)

/-- R372. -/
def execQmpyal (loc : Loc) (s : State) : Host.Outcome State Fault Refusal :=
  reading32 2 loc s fun v t => t.accAddP.setProductHi t.xt v

/-- R373. -/
def execQmpysl (loc : Loc) (s : State) : Host.Outcome State Fault Refusal :=
  reading32 2 loc s fun v t => t.accSubP.setProductHi t.xt v

/-- R374, `*XAR7`. -/
def execQmaclXar7 (loc : Loc) (s : State) : Host.Outcome State Fault Refusal :=
  macLong loc s 2 fun v m t => t.accAddP.setProductHi v m

/-- R374, `*XAR7++`. -/
def execQmaclXar7Inc (loc : Loc) (s : State) : Host.Outcome State Fault Refusal :=
  macLongInc loc s fun v m t => t.accAddP.setProductHi v m

end Sys2Proof.Machine
end

