-- ==== Sys2Proof/Machine/Access.lean ====
section
/-! DEFINITION. Which words an instruction reads, and through which of the two spaces: what the rule of unprotected
operations looks at (70_reset_and_hazards.md R596). -/

namespace Sys2Proof.Machine

/-! ## The `loc` operand -/

/-- The `loc` field an instruction decodes, with the width of the operand (R120, R538): the forms that are `loc`
encodings of another instruction have one too. -/
def locOperand : Instr → Option (Width × Loc)
  | .movOvcLoc16 loc | .movuOvcLoc16 loc | .addAccLoc16 loc | .addAccLoc16Shl _ loc | .addAccLoc16Shl16 loc
  | .addAccLoc16ShlT loc | .addcuAcc loc | .adduAcc loc | .subAccLoc16 loc | .subAccLoc16Shl _ loc
  | .subAccLoc16Shl16 loc | .subAccLoc16ShlT loc | .sbbuAcc loc | .subuAcc loc | .subcu loc | .addAxLoc16 _ loc
  | .addLoc16Ax _ loc | .addLoc16Imm loc _ | .subAxLoc16 _ loc | .subLoc16Ax _ loc | .subrLoc16Ax _ loc
  | .incLoc16 loc | .decLoc16 loc | .cmpAxLoc16 _ loc | .cmpLoc16Imm loc _ | .maxAx _ loc | .minAx _ loc
  | .tbitImm _ loc | .tbitT loc | .tclr _ loc | .tset _ loc | .mova loc | .movad loc | .movp loc | .movs loc
  | .mpyPT loc | .mpyPImm loc _ | .mpyAccT loc | .mpyAccImm loc _ | .mpyaPImm loc _ | .mpyaPT loc | .mpysPT loc
  | .sqra loc | .sqrs loc | .macPma loc _ | .macXar7 loc | .macXar7Inc loc | .xmac loc _ | .xmacd loc _
  | .movAccLoc16 loc | .movAccLoc16Shl _ loc | .movAccLoc16Shl16 loc | .movAccLoc16ShlT loc
  | .movLoc16AccShl1 loc | .movLoc16AccShl _ loc | .movhLoc16AccShl1 loc | .movhLoc16AccShl _ loc
  | .movLoc16P loc | .movhLoc16P loc | .movLoc16AxCond _ _ loc | .movbLoc16Cond _ _ loc | .movArx _ loc
  | .movLoc16Ier loc | .movIerLoc16 loc | .pread loc | .pwrite loc | .rptLoc16 loc | .loopnz loc _
  | .loopz loc _ => some (.word, loc)
  | .addclAcc loc | .addlAcc loc | .addlLoc32Acc loc | .addulAcc loc | .addulP loc | .subblAcc loc
  | .sublAcc loc | .sublLoc32Acc loc | .subrlLoc32Acc loc | .subulAcc loc | .subulP loc | .cmplAcc loc
  | .maxlAcc loc | .minlAcc loc | .subcul loc | .dmacXar7 loc | .dmacXar7Inc loc | .impyl loc | .impyal loc
  | .impysl loc | .impyxul loc | .imaclXar7 loc | .imaclXar7Inc loc | .qmpyal loc | .qmpysl loc
  | .qmaclXar7 loc | .qmaclXar7Inc loc | .movlLoc32AccCond _ loc => some (.long, loc)
  | .addAccP | .subAccP | .movAccP => some (.word, locT)
  | .pushXar0 | .pushXar1 | .pushXar2 | .pushXar3 | .pushXar4 | .pushXar5 | .pushXar6 | .pushXar7 | .pushXt =>
    some (.long, locPush)
  | .popXar0 | .popXar1 | .popXar2 | .popXar3 | .popXar4 | .popXar5 | .popXar6 | .popXar7 | .popXt =>
    some (.long, locPop)
  | .pushIer => some (.word, locPush)
  | .setcMode _ | .clrcMode _ | .setcXf | .clrcXf | .setcObjmode | .clrcObjmode | .setcAmode | .clrcAmode
  | .eallow | .edis | .asp | .nasp | .zapOvc | .spm _ | .addAccImmShl _ _ | .addbAcc _ | .subAccImmShl _ _
  | .subbAcc _ | .cmplAccP | .absAcc | .abstcAcc | .negAcc | .negtcAcc | .neg64AccP | .satAcc | .sat64AccP
  | .testAcc | .zapa | .normXarInc _ | .normXarDec _ | .normInd | .normIndInc | .normIndDec | .normInd0Inc
  | .normInd0Dec | .csb | .addbAx _ _ | .cmpbAx _ _ | .negAx _ | .cmpr0 | .cmpr1 | .cmpr2 | .cmpr3
  | .lslAccImm _ | .lslAccT | .lsllAccT | .sfrAccImm _ | .sfrAccT | .lsrlAccT | .asrlAccT | .rolAcc | .rorAcc
  | .lslAxImm _ _ | .lslAxT _ | .lsrAxImm _ _ | .lsrAxT _ | .asrAxImm _ _ | .asrAxT _ | .lsl64Imm _ | .lsl64T
  | .lsr64Imm _ | .lsr64T | .asr64Imm _ | .asr64T | .movAccImmShl _ _ | .movbAr _ _ | .orIer _ | .andIer _
  | .orIfr _ | .andIfr _ | .pushIfr | .pushDbgier | .popDbgier | .pushAr1hAr0h | .popAr1hAr0h | .pushSt0
  | .popSt0 | .pushSt1 | .popSt1 | .b _ _ | .bf _ _ | .sb _ _ | .sbfEq _ | .sbfNeq _ | .sbfTc _ | .sbfNtc _
  | .banz _ _ | .barEq _ _ _ | .barNeq _ _ _ | .xb _ _ | .xbanzInd _ | .xbanzIndInc _ | .xbanzIndDec _
  | .xbanzInd0Inc _ | .xbanzInd0Dec _ | .xcall _ _ | .xretc _ | .lcr _ | .lretr | .rptImm _ | .idle | .intr _
  | .intrNmi | .trap _ | .iret | .aborti | .iack _ | .estop0 | .estop1 => none

/-- Whether the instruction only stores in its `loc` operand, so that it reads no word there (R394 to R400, R405, R414,
R415, R420, R421). -/
def storesOnly : Instr → Bool
  | .movLoc16AccShl1 _ | .movLoc16AccShl _ _ | .movhLoc16AccShl1 _ | .movhLoc16AccShl _ _ | .movLoc16P _
  | .movhLoc16P _ | .movLoc16AxCond _ _ _ | .movbLoc16Cond _ _ _ | .movlLoc32AccCond _ _ | .movLoc16Ier _
  | .pread _ | .pushXar0 | .pushXar1 | .pushXar2 | .pushXar3 | .pushXar4 | .pushXar5 | .pushXar6 | .pushXar7
  | .pushXt | .pushIer => true
  | _ => false

/-! ## The words read -/

/-- The two words of a 32-bit access (R109). -/
def pairWords (s : State) (a : ProgAddr) : List Nat := [s.progWord (evenAddr a), s.progWord (evenAddr a + 1)]

/-- The words of the place a `loc` field selects; none for a register. -/
def placeWords (w : Width) (loc : Loc) (s : State) : List Nat :=
  match w, resolve w loc s with
  | .word, .ok (.mem a, _) => [a.toNat]
  | .long, .ok (.mem a, _) => [(evenAddr a).toNat, (evenAddr a + 1).toNat]
  | _, _ => []

/-- The words an instruction reads through data space: its `loc` operand, or what it pops. IRET is left out, because
it flushes the pipeline. -/
def dataReads (i : Instr) (s : State) : List Nat :=
  match i with
  | .popDbgier | .popSt0 | .popSt1 => placeWords .word locPop s
  | .popAr1hAr0h => placeWords .long locPop s
  | .lretr => [(s.sp - 1).toNat, (s.sp - 2).toNat]
  | .xretc c => if condHolds s.st0 c then placeWords .word locPop s else []
  | i =>
    match locOperand i with
    | some (w, loc) => if storesOnly i then [] else placeWords w loc s
    | none => []

/-- The words an instruction reads through program space: the program operand of the multiply-accumulates and of PREAD
(R362, R363, R364, R369 to R371, R374, R420). -/
def progReads (i : Instr) (s : State) : List Nat :=
  match i with
  | .macPma _ c => [s.progWord (s.operandAddr (pmaLow c))]
  | .xmac _ c | .xmacd _ c => [s.progWord (s.operandAddr (pmaHigh c))]
  | .macXar7 _ | .pread _ => [s.progWord (s.operandAddr s.xar7Addr)]
  | .macXar7Inc _ => [s.progWord s.xar7Addr]
  | .dmacXar7 _ | .imaclXar7 _ | .qmaclXar7 _ => pairWords s (s.operandAddr s.xar7Addr)
  | .dmacXar7Inc _ | .imaclXar7Inc _ | .qmaclXar7Inc _ => pairWords s s.xar7Addr
  | _ => []

/-- The marks of reads once the instruction has begun: its own, and those of the instruction before it (log 21). -/
def State.readsWith (s : State) (i : Instr) : List AccessMark :=
  (dataReads i s).map (⟨·, false, s.icount + 1⟩) ++ (progReads i s).map (⟨·, true, s.icount + 1⟩) ++
    s.reads.filter (fun k => k.stamp == s.icount)

end Sys2Proof.Machine
end

