-- ==== Sys2Proof/Machine/Control.lean ====
section
/-! DEFINITION. The program-control instructions (46_control.md). -/

namespace Sys2Proof.Machine

/-! ## Targets -/

/-- A relative target: the offset is added to the address of the branch itself, modulo 2^22 (R440). -/
def State.relative {w : Nat} (s : State) (off : BitVec w) : ProgAddr := s.pc + off.signExtend 22

/-- The pc at a target, or past an instruction of `len` words. -/
def State.branchIf (s : State) (taken : Bool) (len target : ProgAddr) : State :=
  { s with pc := if taken then target else s.pc + len }

/-- A branch on a condition code: a condition that tests V clears it whether or not the branch is taken (R150,
R440). -/
def condBranch (cond : Cond) (len target : ProgAddr) (s : State) : Host.Outcome State Fault Refusal :=
  Res.toOutcome do
    condKnown cond
    return { s with st0 := condFlags s.st0 cond }.branchIf (condHolds s.st0 cond) len target

/-! ## Branches -/

/-- R441. -/
def execB (cond : Cond) (c : BitVec 16) (s : State) : Host.Outcome State Fault Refusal :=
  condBranch cond 2 (s.relative c) s

/-- R442. -/
def execBf (cond : Cond) (c : BitVec 16) (s : State) : Host.Outcome State Fault Refusal :=
  condBranch cond 2 (s.relative c) s

/-- R443. -/
def execSb (cond : Cond) (c : BitVec 8) (s : State) : Host.Outcome State Fault Refusal :=
  condBranch cond 1 (s.relative c) s

/-- R444. -/
def execSbfEq (c : BitVec 8) (s : State) : Host.Outcome State Fault Refusal :=
  .next (s.branchIf s.st0.z 1 (s.relative c))

/-- R444. -/
def execSbfNeq (c : BitVec 8) (s : State) : Host.Outcome State Fault Refusal :=
  .next (s.branchIf (!s.st0.z) 1 (s.relative c))

/-- R444. -/
def execSbfTc (c : BitVec 8) (s : State) : Host.Outcome State Fault Refusal :=
  .next (s.branchIf s.st0.tc 1 (s.relative c))

/-- R444. -/
def execSbfNtc (c : BitVec 8) (s : State) : Host.Outcome State Fault Refusal :=
  .next (s.branchIf (!s.st0.tc) 1 (s.relative c))

/-- R445: the test precedes the decrement; ARnH unchanged. -/
def execBanz (n : XReg) (c : BitVec 16) (s : State) : Host.Outcome State Fault Refusal :=
  .next ((s.branchIf (s.arOf n != 0) 2 (s.relative c)).setAr n (s.arOf n - 1))

/-- R446. -/
def execBarEq (n m : XReg) (c : BitVec 16) (s : State) : Host.Outcome State Fault Refusal :=
  .next (s.branchIf (s.arOf n == s.arOf m) 2 (s.relative c))

/-- R446. -/
def execBarNeq (n m : XReg) (c : BitVec 16) (s : State) : Host.Outcome State Fault Refusal :=
  .next (s.branchIf (s.arOf n != s.arOf m) 2 (s.relative c))

/-- R447. -/
def execXb (cond : Cond) (c : BitVec 16) (s : State) : Host.Outcome State Fault Refusal :=
  condBranch cond 2 (pmaHigh c) s

/-- XBANZ before its pointer update: the branch is taken where AR(ARP) is not 0 (R448). -/
def State.xbanz (s : State) (c : BitVec 16) : State := s.branchIf (s.arOf s.st1.arp != 0) 2 (pmaHigh c)

/-- R448, `*`. -/
def execXbanzInd (c : BitVec 16) (s : State) : Host.Outcome State Fault Refusal := .next (s.xbanz c)

/-- R448, `*++`. -/
def execXbanzIndInc (c : BitVec 16) (s : State) : Host.Outcome State Fault Refusal := .next ((s.xbanz c).moveCur 1)

/-- R448, `*--`. -/
def execXbanzIndDec (c : BitVec 16) (s : State) : Host.Outcome State Fault Refusal := .next ((s.xbanz c).moveCur (-1))

/-- R448, `*0++`. -/
def execXbanzInd0Inc (c : BitVec 16) (s : State) : Host.Outcome State Fault Refusal :=
  .next ((s.xbanz c).moveCur (s.ar0.zeroExtend 32))

/-- R448, `*0--`. -/
def execXbanzInd0Dec (c : BitVec 16) (s : State) : Host.Outcome State Fault Refusal :=
  .next ((s.xbanz c).moveCur (-(s.ar0.zeroExtend 32)))

/-! ## Calls and returns -/

/-- R449: the low 16 bits of the return address are pushed where the condition holds. -/
def execXcall (cond : Cond) (c : BitVec 16) (s : State) : Host.Outcome State Fault Refusal :=
  Res.toOutcome do
    condKnown cond
    let s1 := { s with st0 := condFlags s.st0 cond }
    if condHolds s.st0 cond then
      let s2 ← push16 s1 ((s.pc + 2).extractLsb' 0 16)
      return { s2 with pc := pmaHigh c }
    else
      return s1.advance 2

/-- R450. -/
def execXretc (cond : Cond) (s : State) : Host.Outcome State Fault Refusal :=
  Res.toOutcome do
    condKnown cond
    let s1 := { s with st0 := condFlags s.st0 cond }
    if condHolds s.st0 cond then
      let (v, s2) ← pop16 s1
      return { s2 with pc := pmaHigh v }
    else
      return s1.advance 1

/-- R451: RPC is pushed low word first, then holds the return address. -/
def execLcr (c : BitVec 22) (s : State) : Host.Outcome State Fault Refusal :=
  Res.toOutcome do
    let s1 ← push16 s (s.rpc.extractLsb' 0 16)
    let s2 ← push16 s1 ((s.rpc.extractLsb' 16 6).zeroExtend 16)
    return { s2 with rpc := s.pc + 2, pc := c }

/-- R452: the upper 10 bits of the popped high word are discarded. -/
def execLretr (s : State) : Host.Outcome State Fault Refusal :=
  Res.toOutcome do
    let (hi, s1) ← pop16 s
    let (lo, s2) ← pop16 s1
    return { s2 with pc := s.rpc, rpc := hi.extractLsb' 0 6 ++ lo }

/-! ## Repeat and loops -/

/-- RPTC <- N; the next instruction is the repeated one (R454). -/
def State.startRepeat (s : State) (n : Word) : State := { s with rptc := n, repeating := true, rptAddr := none }

/-- R454, `RPT #8bit`. -/
def execRptImm (c : BitVec 8) (s : State) : Host.Outcome State Fault Refusal :=
  register 1 (s.startRepeat (c.zeroExtend 16))

/-- R454, `RPT loc16`. -/
def execRptLoc16 (loc : Loc) (s : State) : Host.Outcome State Fault Refusal :=
  reading16 1 loc s fun v t => t.startRepeat v

/-- One evaluation of a loop instruction: while it goes on LOOP is set and the pc stays; at its end LOOP is cleared and
the pc moves on. N and Z follow the masked value (R455). -/
def State.loopStep (s : State) (masked : Word) (again : Bool) : State :=
  { s with st0 := setNZ s.st0 masked, st1 := { s.st1 with loop := again }, pc := if again then s.pc else s.pc + 2 }

/-- R455: loop while the masked value is not 0. -/
def execLoopnz (loc : Loc) (c : BitVec 16) (s : State) : Host.Outcome State Fault Refusal :=
  withLoc .word loc s do
    let (v, s1) ← readLoc16 s loc
    return s1.loopStep (v &&& c) (v &&& c != 0)

/-- R456: loop while the masked value is 0. -/
def execLoopz (loc : Loc) (c : BitVec 16) (s : State) : Host.Outcome State Fault Refusal :=
  withLoc .word loc s do
    let (v, s1) ← readLoc16 s loc
    return s1.loopStep (v &&& c) (v &&& c == 0)

/-! ## Idle, software interrupts, return, emulation -/

/-- R457: IDLESTAT <- 1; the pc is at the next instruction, where the CPU waits. -/
def execIdle (s : State) : Host.Outcome State Fault Refusal :=
  register 1 { s with st1 := { s.st1 with idlestat := true } }

/-- R458: the field is 1 to 14 for INT1 to INT14, 15 for DLOGINT, 0 for RTOSINT; the line's bit is the field minus 1.
The interrupt is taken regardless of the enable bits (R522). -/
def execIntr (c : BitVec 4) (s : State) : Host.Outcome State Fault Refusal :=
  (maskableEntry s (c - 1) (s.pc + 1)).toOutcome

/-- R458, `INTR NMI`: as TRAP with vector 18 (R522). -/
def execIntrNmi (s : State) : Host.Outcome State Fault Refusal := (trapEntry s 18 (s.pc + 1)).toOutcome

/-- R459, R523. -/
def execTrap (c : BitVec 5) (s : State) : Host.Outcome State Fault Refusal := (trapEntry s c (s.pc + 1)).toOutcome

/-- R460, R530. -/
def execIret (s : State) : Host.Outcome State Fault Refusal := (iretRestore s).toOutcome

/-- R461: with no emulator the whole effect is DBGM <- 1. -/
def execAborti (s : State) : Host.Outcome State Fault Refusal :=
  register 1 { s with st1 := { s.st1 with dbgm := true } }

/-- R462: an output event carrying the constant. -/
def execIack (c : BitVec 16) (s : State) : Host.Outcome State Fault Refusal :=
  register 2 { s with acks := s.acks ++ [c] }

/-- R463: with no emulator a no-operation of one word. -/
def execEstop0 (s : State) : Host.Outcome State Fault Refusal := register 1 s

/-- R464: with no emulator a no-operation of one word. -/
def execEstop1 (s : State) : Host.Outcome State Fault Refusal := register 1 s

end Sys2Proof.Machine
end

