-- ==== Sys2Proof/Machine/Shift.lean ====
section
/-! DEFINITION. The shift and rotate instructions (43_shift.md). -/

namespace Sys2Proof.Machine

/-! ## ACC -/

/-- R311. -/
def execLslAccImm (sh : BitVec 4) (s : State) : Host.Outcome State Fault Refusal :=
  register 1 (s.setAcc (lsl s.st0 s.acc (immCount sh)))

/-- R312. -/
def execLslAccT (s : State) : Host.Outcome State Fault Refusal :=
  register 1 (s.setAcc (lsl s.st0 s.acc (count4 s.t)))

/-- R313. -/
def execLsllAccT (s : State) : Host.Outcome State Fault Refusal :=
  register 1 (s.setAcc (lsl s.st0 s.acc (count5 s.t)))

/-- R314. -/
def execSfrAccImm (sh : BitVec 4) (s : State) : Host.Outcome State Fault Refusal :=
  register 1 (s.setAcc (sfr s.st0 s.acc (immCount sh)))

/-- R315. -/
def execSfrAccT (s : State) : Host.Outcome State Fault Refusal :=
  register 1 (s.setAcc (sfr s.st0 s.acc (count4 s.t)))

/-- R316. -/
def execLsrlAccT (s : State) : Host.Outcome State Fault Refusal :=
  register 1 (s.setAcc (lsr s.st0 s.acc (count5 s.t)))

/-- R317. -/
def execAsrlAccT (s : State) : Host.Outcome State Fault Refusal :=
  register 1 (s.setAcc (asr s.st0 s.acc (count5 s.t)))

/-- R318. -/
def execRolAcc (s : State) : Host.Outcome State Fault Refusal := register 1 (s.setAcc (rol s.st0 s.acc))

/-- R319. -/
def execRorAcc (s : State) : Host.Outcome State Fault Refusal := register 1 (s.setAcc (ror s.st0 s.acc))

/-! ## AH and AL -/

/-- R320. -/
def execLslAxImm (ax : AccHalf) (sh : BitVec 4) (s : State) : Host.Outcome State Fault Refusal :=
  register 1 (s.setAxF ax (lsl s.st0 (s.ax ax) (immCount sh)))

/-- R321. -/
def execLslAxT (ax : AccHalf) (s : State) : Host.Outcome State Fault Refusal :=
  register 1 (s.setAxF ax (lsl s.st0 (s.ax ax) (count4 s.t)))

/-- R322. -/
def execLsrAxImm (ax : AccHalf) (sh : BitVec 4) (s : State) : Host.Outcome State Fault Refusal :=
  register 1 (s.setAxF ax (lsr s.st0 (s.ax ax) (immCount sh)))

/-- R323. -/
def execLsrAxT (ax : AccHalf) (s : State) : Host.Outcome State Fault Refusal :=
  register 1 (s.setAxF ax (lsr s.st0 (s.ax ax) (count4 s.t)))

/-- R324. -/
def execAsrAxImm (ax : AccHalf) (sh : BitVec 4) (s : State) : Host.Outcome State Fault Refusal :=
  register 1 (s.setAxF ax (asr s.st0 (s.ax ax) (immCount sh)))

/-- R325, C12: the count is T[3:0]. -/
def execAsrAxT (ax : AccHalf) (s : State) : Host.Outcome State Fault Refusal :=
  register 1 (s.setAxF ax (asr s.st0 (s.ax ax) (count4 s.t)))

/-! ## ACC:P, without PM -/

/-- R326. -/
def execLsl64Imm (sh : BitVec 4) (s : State) : Host.Outcome State Fault Refusal :=
  register 1 (s.setAccPF (lsl s.st0 s.accP (immCount sh)))

/-- R327. -/
def execLsl64T (s : State) : Host.Outcome State Fault Refusal :=
  register 1 (s.setAccPF (lsl s.st0 s.accP (count6 s.t)))

/-- R328. -/
def execLsr64Imm (sh : BitVec 4) (s : State) : Host.Outcome State Fault Refusal :=
  register 1 (s.setAccPF (lsr s.st0 s.accP (immCount sh)))

/-- R329. -/
def execLsr64T (s : State) : Host.Outcome State Fault Refusal :=
  register 1 (s.setAccPF (lsr s.st0 s.accP (count6 s.t)))

/-- R330. -/
def execAsr64Imm (sh : BitVec 4) (s : State) : Host.Outcome State Fault Refusal :=
  register 1 (s.setAccPF (asr s.st0 s.accP (immCount sh)))

/-- R331. -/
def execAsr64T (s : State) : Host.Outcome State Fault Refusal :=
  register 1 (s.setAccPF (asr s.st0 s.accP (count6 s.t)))

end Sys2Proof.Machine
end

