-- ==== Sys2Proof/Machine/StatusMode.lean ====
section
/-! DEFINITION. The status-bit and mode instructions (40_status_mode.md). -/

namespace Sys2Proof.Machine

/-- The bits SETC and CLRC name in ST0: SXM 0x01, OVM 0x02, TC 0x04, C 0x08 (R171, R172). -/
def St0.writeNamed (f : St0) (mask : BitVec 8) (b : Bool) : St0 :=
  { f with sxm := if mask.getLsbD 0 then b else f.sxm, ovm := if mask.getLsbD 1 then b else f.ovm,
           tc := if mask.getLsbD 2 then b else f.tc, c := if mask.getLsbD 3 then b else f.c }

/-- The bits SETC and CLRC name in ST1: INTM 0x10, DBGM 0x20, PAGE0 0x40, VMAP 0x80 (R171, R172). -/
def St1.writeNamed (f : St1) (mask : BitVec 8) (b : Bool) : St1 :=
  { f with intm := if mask.getLsbD 4 then b else f.intm, dbgm := if mask.getLsbD 5 then b else f.dbgm,
           page0 := if mask.getLsbD 6 then b else f.page0, vmap := if mask.getLsbD 7 then b else f.vmap }

/-- The named status bits written. -/
def State.writeNamed (s : State) (mask : BitVec 8) (b : Bool) : State :=
  { s with st0 := s.st0.writeNamed mask b, st1 := s.st1.writeNamed mask b }

/-- R171: each named bit <- 1. A mask of 0 names none and writes nothing: DESIGN CHOICE (log 40). -/
def execSetcMode (c : BitVec 8) (s : State) : Host.Outcome State Fault Refusal := register 1 (s.writeNamed c true)

/-- R172: each named bit <- 0. A mask of 0 names none and writes nothing: DESIGN CHOICE (log 40). -/
def execClrcMode (c : BitVec 8) (s : State) : Host.Outcome State Fault Refusal := register 1 (s.writeNamed c false)

/-- R173: XF <- 1. -/
def execSetcXf (s : State) : Host.Outcome State Fault Refusal := register 1 { s with st1 := { s.st1 with xf := true } }

/-- R174: XF <- 0. -/
def execClrcXf (s : State) : Host.Outcome State Fault Refusal := register 1 { s with st1 := { s.st1 with xf := false } }

/-- R175: OBJMODE <- 1; the pipeline is flushed. -/
def execSetcObjmode (s : State) : Host.Outcome State Fault Refusal :=
  register 1 ({ s with st1 := { s.st1 with objmode := true } }).flush

/-- R176: OBJMODE <- 0; the pipeline is flushed. -/
def execClrcObjmode (s : State) : Host.Outcome State Fault Refusal :=
  register 1 ({ s with st1 := { s.st1 with objmode := false } }).flush

/-- R177: AMODE <- 1. -/
def execSetcAmode (s : State) : Host.Outcome State Fault Refusal :=
  register 1 { s with st1 := { s.st1 with amode := true } }

/-- R178: AMODE <- 0. -/
def execClrcAmode (s : State) : Host.Outcome State Fault Refusal :=
  register 1 { s with st1 := { s.st1 with amode := false } }

/-- R179: EALLOW <- 1. -/
def execEallow (s : State) : Host.Outcome State Fault Refusal :=
  register 1 { s with st1 := { s.st1 with eallow := true } }

/-- R180: EALLOW <- 0. -/
def execEdis (s : State) : Host.Outcome State Fault Refusal :=
  register 1 { s with st1 := { s.st1 with eallow := false } }

/-- R181: an odd SP goes up by 1 and SPA is set; with an even SP, SPA is cleared. -/
def execAsp (s : State) : Host.Outcome State Fault Refusal :=
  register 1 { s with sp := if s.sp.getLsbD 0 then s.sp + 1 else s.sp, st1 := { s.st1 with spa := s.sp.getLsbD 0 } }

/-- R182: if SPA is set, SP goes down by 1 and SPA is cleared. -/
def execNasp (s : State) : Host.Outcome State Fault Refusal :=
  register 1 { s with sp := if s.st1.spa then s.sp - 1 else s.sp, st1 := { s.st1 with spa := false } }

/-- R183: OVC <- 0. -/
def execZapOvc (s : State) : Host.Outcome State Fault Refusal := register 1 { s with st0 := { s.st0 with ovc := 0 } }

/-- R184: OVC <- [loc16][15:10]. -/
def execMovOvcLoc16 (loc : Loc) (s : State) : Host.Outcome State Fault Refusal :=
  reading16 2 loc s fun v t => { t with st0 := { t.st0 with ovc := v.extractLsb' 10 6 } }

/-- R185: OVC <- [loc16][5:0]. -/
def execMovuOvcLoc16 (loc : Loc) (s : State) : Host.Outcome State Fault Refusal :=
  reading16 2 loc s fun v t => { t with st0 := { t.st0 with ovc := v.extractLsb' 0 6 } }

/-- R186: PM <- the value of the field. -/
def execSpm (pm : BitVec 3) (s : State) : Host.Outcome State Fault Refusal :=
  register 1 { s with st0 := { s.st0 with pm := pm } }

end Sys2Proof.Machine
end

