-- ==== Sys2Proof/Machine/WordArith.lean ====
section
/-! DEFINITION. The 16-bit arithmetic, compare and bit-test instructions (42_word_arith.md). -/

namespace Sys2Proof.Machine

/-! ## Add and subtract -/

/-- R271. -/
def execAddAxLoc16 (ax : AccHalf) (loc : Loc) (s : State) : Host.Outcome State Fault Refusal :=
  reading16 1 loc s fun v t => t.setAxF ax (add16 t.st0 (t.ax ax) v)

/-- R272. -/
def execAddLoc16Ax (ax : AccHalf) (loc : Loc) (s : State) : Host.Outcome State Fault Refusal :=
  updating16 1 loc s fun v => add16 s.st0 v (s.ax ax)

/-- R273. -/
def execAddLoc16Imm (loc : Loc) (c : BitVec 16) (s : State) : Host.Outcome State Fault Refusal :=
  updating16 2 loc s fun v => add16Mem s.st0 v c

/-- R274: the constant is sign-extended. -/
def execAddbAx (ax : AccHalf) (c : BitVec 8) (s : State) : Host.Outcome State Fault Refusal :=
  register 1 (s.setAxF ax (add16 s.st0 (s.ax ax) (c.signExtend 16)))

/-- R275. -/
def execSubAxLoc16 (ax : AccHalf) (loc : Loc) (s : State) : Host.Outcome State Fault Refusal :=
  reading16 1 loc s fun v t => t.setAxF ax (sub16 t.st0 (t.ax ax) v)

/-- R276. -/
def execSubLoc16Ax (ax : AccHalf) (loc : Loc) (s : State) : Host.Outcome State Fault Refusal :=
  updating16 1 loc s fun v => sub16 s.st0 v (s.ax ax)

/-- R277: the operand is subtracted from AX. -/
def execSubrLoc16Ax (ax : AccHalf) (loc : Loc) (s : State) : Host.Outcome State Fault Refusal :=
  updating16 1 loc s fun v => sub16 s.st0 (s.ax ax) v

/-- R278. -/
def execIncLoc16 (loc : Loc) (s : State) : Host.Outcome State Fault Refusal :=
  updating16 1 loc s fun v => add16Mem s.st0 v 1

/-- R279. -/
def execDecLoc16 (loc : Loc) (s : State) : Host.Outcome State Fault Refusal :=
  updating16 1 loc s fun v => sub16Mem s.st0 v 1

/-! ## Compare, maximum, minimum, negate -/

/-- R280. -/
def execCmpAxLoc16 (ax : AccHalf) (loc : Loc) (s : State) : Host.Outcome State Fault Refusal :=
  reading16 1 loc s fun v t => { t with st0 := cmpFlags t.st0 (t.ax ax) v }

/-- R281: the operand is the left side. -/
def execCmpLoc16Imm (loc : Loc) (c : BitVec 16) (s : State) : Host.Outcome State Fault Refusal :=
  reading16 2 loc s fun v t => { t with st0 := cmpFlags t.st0 v c }

/-- R282: the constant is zero-extended. -/
def execCmpbAx (ax : AccHalf) (c : BitVec 8) (s : State) : Host.Outcome State Fault Refusal :=
  register 1 { s with st0 := cmpFlags s.st0 (s.ax ax) (c.zeroExtend 16) }

/-- R283. -/
def execMaxAx (ax : AccHalf) (loc : Loc) (s : State) : Host.Outcome State Fault Refusal :=
  reading16 2 loc s fun v t => t.setAxF ax (maxOp t.st0 (t.ax ax) v)

/-- R284. -/
def execMinAx (ax : AccHalf) (loc : Loc) (s : State) : Host.Outcome State Fault Refusal :=
  reading16 2 loc s fun v t => t.setAxF ax (minOp t.st0 (t.ax ax) v)

/-- R285. -/
def execNegAx (ax : AccHalf) (s : State) : Host.Outcome State Fault Refusal :=
  register 1 (s.setAxF ax (neg16 s.st0 (s.ax ax)))

/-! ## Bit test and auxiliary-register compare -/

/-- TC written. -/
def State.setTc (s : State) (b : Bool) : State := { s with st0 := { s.st0 with tc := b } }

/-- R286: TC <- [loc16][bit]. -/
def execTbitImm (b : BitVec 4) (loc : Loc) (s : State) : Host.Outcome State Fault Refusal :=
  reading16 1 loc s fun v t => t.setTc (v.getLsbD b.toNat)

/-- R287: TC <- [loc16][15 - T[3:0]]. -/
def execTbitT (loc : Loc) (s : State) : Host.Outcome State Fault Refusal :=
  reading16 2 loc s fun v t => t.setTc (v.getLsbD (15 - count4 t.t))

/-- R288: TC <- the bit, then the bit <- 0. -/
def execTclr (b : BitVec 4) (loc : Loc) (s : State) : Host.Outcome State Fault Refusal :=
  updating16 2 loc s fun v => (v &&& ~~~(1#16 <<< b.toNat), { s.st0 with tc := v.getLsbD b.toNat })

/-- R289: TC <- the bit, then the bit <- 1. -/
def execTset (b : BitVec 4) (loc : Loc) (s : State) : Host.Outcome State Fault Refusal :=
  updating16 2 loc s fun v => (v ||| (1#16 <<< b.toNat), { s.st0 with tc := v.getLsbD b.toNat })

/-- R290, `CMPR 0`: TC <- AR(ARP) = AR0. -/
def execCmpr0 (s : State) : Host.Outcome State Fault Refusal := register 1 (s.setTc (s.arOf s.st1.arp == s.ar0))

/-- R290, `CMPR 1`: TC <- AR(ARP) < AR0, unsigned. -/
def execCmpr1 (s : State) : Host.Outcome State Fault Refusal :=
  register 1 (s.setTc (decide ((s.arOf s.st1.arp).toNat < s.ar0.toNat)))

/-- R290, `CMPR 2`: TC <- AR(ARP) > AR0, unsigned. -/
def execCmpr2 (s : State) : Host.Outcome State Fault Refusal :=
  register 1 (s.setTc (decide (s.ar0.toNat < (s.arOf s.st1.arp).toNat)))

/-- R290, `CMPR 3`: TC <- AR(ARP) ≠ AR0. -/
def execCmpr3 (s : State) : Host.Outcome State Fault Refusal := register 1 (s.setTc (s.arOf s.st1.arp != s.ar0))

end Sys2Proof.Machine
end

