-- ==== Sys2Proof/Machine/Dispatch.lean ====
section
/-! DEFINITION. One arm for each instruction: a direct call of its meaning. -/

namespace Sys2Proof.Machine

def exec (i : Instr) (s : State) : Host.Outcome State Fault Refusal :=
  match i with
  | .setcMode c => Sys2Proof.Machine.execSetcMode c s
  | .clrcMode c => Sys2Proof.Machine.execClrcMode c s
  | .setcXf => Sys2Proof.Machine.execSetcXf s
  | .clrcXf => Sys2Proof.Machine.execClrcXf s
  | .setcObjmode => Sys2Proof.Machine.execSetcObjmode s
  | .clrcObjmode => Sys2Proof.Machine.execClrcObjmode s
  | .setcAmode => Sys2Proof.Machine.execSetcAmode s
  | .clrcAmode => Sys2Proof.Machine.execClrcAmode s
  | .eallow => Sys2Proof.Machine.execEallow s
  | .edis => Sys2Proof.Machine.execEdis s
  | .asp => Sys2Proof.Machine.execAsp s
  | .nasp => Sys2Proof.Machine.execNasp s
  | .zapOvc => Sys2Proof.Machine.execZapOvc s
  | .movOvcLoc16 loc => Sys2Proof.Machine.execMovOvcLoc16 loc s
  | .movuOvcLoc16 loc => Sys2Proof.Machine.execMovuOvcLoc16 loc s
  | .spm pm => Sys2Proof.Machine.execSpm pm s
  | .addAccLoc16 loc => Sys2Proof.Machine.execAddAccLoc16 loc s
  | .addAccLoc16Shl sh loc => Sys2Proof.Machine.execAddAccLoc16Shl sh loc s
  | .addAccLoc16Shl16 loc => Sys2Proof.Machine.execAddAccLoc16Shl16 loc s
  | .addAccImmShl sh c => Sys2Proof.Machine.execAddAccImmShl sh c s
  | .addAccLoc16ShlT loc => Sys2Proof.Machine.execAddAccLoc16ShlT loc s
  | .addbAcc c => Sys2Proof.Machine.execAddbAcc c s
  | .addclAcc loc => Sys2Proof.Machine.execAddclAcc loc s
  | .addcuAcc loc => Sys2Proof.Machine.execAddcuAcc loc s
  | .addlAcc loc => Sys2Proof.Machine.execAddlAcc loc s
  | .addlLoc32Acc loc => Sys2Proof.Machine.execAddlLoc32Acc loc s
  | .adduAcc loc => Sys2Proof.Machine.execAdduAcc loc s
  | .addulAcc loc => Sys2Proof.Machine.execAddulAcc loc s
  | .addulP loc => Sys2Proof.Machine.execAddulP loc s
  | .subAccLoc16 loc => Sys2Proof.Machine.execSubAccLoc16 loc s
  | .subAccLoc16Shl sh loc => Sys2Proof.Machine.execSubAccLoc16Shl sh loc s
  | .subAccLoc16Shl16 loc => Sys2Proof.Machine.execSubAccLoc16Shl16 loc s
  | .subAccImmShl sh c => Sys2Proof.Machine.execSubAccImmShl sh c s
  | .subAccLoc16ShlT loc => Sys2Proof.Machine.execSubAccLoc16ShlT loc s
  | .subbAcc c => Sys2Proof.Machine.execSubbAcc c s
  | .subblAcc loc => Sys2Proof.Machine.execSubblAcc loc s
  | .sbbuAcc loc => Sys2Proof.Machine.execSbbuAcc loc s
  | .sublAcc loc => Sys2Proof.Machine.execSublAcc loc s
  | .sublLoc32Acc loc => Sys2Proof.Machine.execSublLoc32Acc loc s
  | .subrlLoc32Acc loc => Sys2Proof.Machine.execSubrlLoc32Acc loc s
  | .subuAcc loc => Sys2Proof.Machine.execSubuAcc loc s
  | .subulAcc loc => Sys2Proof.Machine.execSubulAcc loc s
  | .subulP loc => Sys2Proof.Machine.execSubulP loc s
  | .cmplAcc loc => Sys2Proof.Machine.execCmplAcc loc s
  | .addAccP => Sys2Proof.Machine.execAddAccP s
  | .subAccP => Sys2Proof.Machine.execSubAccP s
  | .cmplAccP => Sys2Proof.Machine.execCmplAccP s
  | .movAccP => Sys2Proof.Machine.execMovAccP s
  | .maxlAcc loc => Sys2Proof.Machine.execMaxlAcc loc s
  | .minlAcc loc => Sys2Proof.Machine.execMinlAcc loc s
  | .absAcc => Sys2Proof.Machine.execAbsAcc s
  | .abstcAcc => Sys2Proof.Machine.execAbstcAcc s
  | .negAcc => Sys2Proof.Machine.execNegAcc s
  | .negtcAcc => Sys2Proof.Machine.execNegtcAcc s
  | .neg64AccP => Sys2Proof.Machine.execNeg64AccP s
  | .satAcc => Sys2Proof.Machine.execSatAcc s
  | .sat64AccP => Sys2Proof.Machine.execSat64AccP s
  | .testAcc => Sys2Proof.Machine.execTestAcc s
  | .zapa => Sys2Proof.Machine.execZapa s
  | .subcu loc => Sys2Proof.Machine.execSubcu loc s
  | .subcul loc => Sys2Proof.Machine.execSubcul loc s
  | .normXarInc n => Sys2Proof.Machine.execNormXarInc n s
  | .normXarDec n => Sys2Proof.Machine.execNormXarDec n s
  | .normInd => Sys2Proof.Machine.execNormInd s
  | .normIndInc => Sys2Proof.Machine.execNormIndInc s
  | .normIndDec => Sys2Proof.Machine.execNormIndDec s
  | .normInd0Inc => Sys2Proof.Machine.execNormInd0Inc s
  | .normInd0Dec => Sys2Proof.Machine.execNormInd0Dec s
  | .csb => Sys2Proof.Machine.execCsb s
  | .addAxLoc16 ax loc => Sys2Proof.Machine.execAddAxLoc16 ax loc s
  | .addLoc16Ax ax loc => Sys2Proof.Machine.execAddLoc16Ax ax loc s
  | .addLoc16Imm loc c => Sys2Proof.Machine.execAddLoc16Imm loc c s
  | .addbAx ax c => Sys2Proof.Machine.execAddbAx ax c s
  | .subAxLoc16 ax loc => Sys2Proof.Machine.execSubAxLoc16 ax loc s
  | .subLoc16Ax ax loc => Sys2Proof.Machine.execSubLoc16Ax ax loc s
  | .subrLoc16Ax ax loc => Sys2Proof.Machine.execSubrLoc16Ax ax loc s
  | .incLoc16 loc => Sys2Proof.Machine.execIncLoc16 loc s
  | .decLoc16 loc => Sys2Proof.Machine.execDecLoc16 loc s
  | .cmpAxLoc16 ax loc => Sys2Proof.Machine.execCmpAxLoc16 ax loc s
  | .cmpLoc16Imm loc c => Sys2Proof.Machine.execCmpLoc16Imm loc c s
  | .cmpbAx ax c => Sys2Proof.Machine.execCmpbAx ax c s
  | .maxAx ax loc => Sys2Proof.Machine.execMaxAx ax loc s
  | .minAx ax loc => Sys2Proof.Machine.execMinAx ax loc s
  | .negAx ax => Sys2Proof.Machine.execNegAx ax s
  | .tbitImm b loc => Sys2Proof.Machine.execTbitImm b loc s
  | .tbitT loc => Sys2Proof.Machine.execTbitT loc s
  | .tclr b loc => Sys2Proof.Machine.execTclr b loc s
  | .tset b loc => Sys2Proof.Machine.execTset b loc s
  | .cmpr0 => Sys2Proof.Machine.execCmpr0 s
  | .cmpr1 => Sys2Proof.Machine.execCmpr1 s
  | .cmpr2 => Sys2Proof.Machine.execCmpr2 s
  | .cmpr3 => Sys2Proof.Machine.execCmpr3 s
  | .lslAccImm sh => Sys2Proof.Machine.execLslAccImm sh s
  | .lslAccT => Sys2Proof.Machine.execLslAccT s
  | .lsllAccT => Sys2Proof.Machine.execLsllAccT s
  | .sfrAccImm sh => Sys2Proof.Machine.execSfrAccImm sh s
  | .sfrAccT => Sys2Proof.Machine.execSfrAccT s
  | .lsrlAccT => Sys2Proof.Machine.execLsrlAccT s
  | .asrlAccT => Sys2Proof.Machine.execAsrlAccT s
  | .rolAcc => Sys2Proof.Machine.execRolAcc s
  | .rorAcc => Sys2Proof.Machine.execRorAcc s
  | .lslAxImm ax sh => Sys2Proof.Machine.execLslAxImm ax sh s
  | .lslAxT ax => Sys2Proof.Machine.execLslAxT ax s
  | .lsrAxImm ax sh => Sys2Proof.Machine.execLsrAxImm ax sh s
  | .lsrAxT ax => Sys2Proof.Machine.execLsrAxT ax s
  | .asrAxImm ax sh => Sys2Proof.Machine.execAsrAxImm ax sh s
  | .asrAxT ax => Sys2Proof.Machine.execAsrAxT ax s
  | .lsl64Imm sh => Sys2Proof.Machine.execLsl64Imm sh s
  | .lsl64T => Sys2Proof.Machine.execLsl64T s
  | .lsr64Imm sh => Sys2Proof.Machine.execLsr64Imm sh s
  | .lsr64T => Sys2Proof.Machine.execLsr64T s
  | .asr64Imm sh => Sys2Proof.Machine.execAsr64Imm sh s
  | .asr64T => Sys2Proof.Machine.execAsr64T s
  | .mova loc => Sys2Proof.Machine.execMova loc s
  | .movad loc => Sys2Proof.Machine.execMovad loc s
  | .movp loc => Sys2Proof.Machine.execMovp loc s
  | .movs loc => Sys2Proof.Machine.execMovs loc s
  | .mpyPT loc => Sys2Proof.Machine.execMpyPT loc s
  | .mpyPImm loc c => Sys2Proof.Machine.execMpyPImm loc c s
  | .mpyAccT loc => Sys2Proof.Machine.execMpyAccT loc s
  | .mpyAccImm loc c => Sys2Proof.Machine.execMpyAccImm loc c s
  | .mpyaPImm loc c => Sys2Proof.Machine.execMpyaPImm loc c s
  | .mpyaPT loc => Sys2Proof.Machine.execMpyaPT loc s
  | .mpysPT loc => Sys2Proof.Machine.execMpysPT loc s
  | .sqra loc => Sys2Proof.Machine.execSqra loc s
  | .sqrs loc => Sys2Proof.Machine.execSqrs loc s
  | .macPma loc c => Sys2Proof.Machine.execMacPma loc c s
  | .macXar7 loc => Sys2Proof.Machine.execMacXar7 loc s
  | .macXar7Inc loc => Sys2Proof.Machine.execMacXar7Inc loc s
  | .dmacXar7 loc => Sys2Proof.Machine.execDmacXar7 loc s
  | .dmacXar7Inc loc => Sys2Proof.Machine.execDmacXar7Inc loc s
  | .impyl loc => Sys2Proof.Machine.execImpyl loc s
  | .impyal loc => Sys2Proof.Machine.execImpyal loc s
  | .impysl loc => Sys2Proof.Machine.execImpysl loc s
  | .impyxul loc => Sys2Proof.Machine.execImpyxul loc s
  | .imaclXar7 loc => Sys2Proof.Machine.execImaclXar7 loc s
  | .imaclXar7Inc loc => Sys2Proof.Machine.execImaclXar7Inc loc s
  | .xmac loc c => Sys2Proof.Machine.execXmac loc c s
  | .xmacd loc c => Sys2Proof.Machine.execXmacd loc c s
  | .qmpyal loc => Sys2Proof.Machine.execQmpyal loc s
  | .qmpysl loc => Sys2Proof.Machine.execQmpysl loc s
  | .qmaclXar7 loc => Sys2Proof.Machine.execQmaclXar7 loc s
  | .qmaclXar7Inc loc => Sys2Proof.Machine.execQmaclXar7Inc loc s
  | .movAccLoc16 loc => Sys2Proof.Machine.execMovAccLoc16 loc s
  | .movAccLoc16Shl sh loc => Sys2Proof.Machine.execMovAccLoc16Shl sh loc s
  | .movAccLoc16Shl16 loc => Sys2Proof.Machine.execMovAccLoc16Shl16 loc s
  | .movAccImmShl sh c => Sys2Proof.Machine.execMovAccImmShl sh c s
  | .movAccLoc16ShlT loc => Sys2Proof.Machine.execMovAccLoc16ShlT loc s
  | .movLoc16AccShl1 loc => Sys2Proof.Machine.execMovLoc16AccShl1 loc s
  | .movLoc16AccShl sh loc => Sys2Proof.Machine.execMovLoc16AccShl sh loc s
  | .movhLoc16AccShl1 loc => Sys2Proof.Machine.execMovhLoc16AccShl1 loc s
  | .movhLoc16AccShl sh loc => Sys2Proof.Machine.execMovhLoc16AccShl sh loc s
  | .movLoc16P loc => Sys2Proof.Machine.execMovLoc16P loc s
  | .movhLoc16P loc => Sys2Proof.Machine.execMovhLoc16P loc s
  | .movLoc16AxCond ax cond loc => Sys2Proof.Machine.execMovLoc16AxCond ax cond loc s
  | .movbLoc16Cond cond c loc => Sys2Proof.Machine.execMovbLoc16Cond cond c loc s
  | .movlLoc32AccCond cond loc => Sys2Proof.Machine.execMovlLoc32AccCond cond loc s
  | .movArx n loc => Sys2Proof.Machine.execMovArx n loc s
  | .movbAr n c => Sys2Proof.Machine.execMovbAr n c s
  | .movLoc16Ier loc => Sys2Proof.Machine.execMovLoc16Ier loc s
  | .movIerLoc16 loc => Sys2Proof.Machine.execMovIerLoc16 loc s
  | .orIer c => Sys2Proof.Machine.execOrIer c s
  | .andIer c => Sys2Proof.Machine.execAndIer c s
  | .orIfr c => Sys2Proof.Machine.execOrIfr c s
  | .andIfr c => Sys2Proof.Machine.execAndIfr c s
  | .pushIfr => Sys2Proof.Machine.execPushIfr s
  | .pushDbgier => Sys2Proof.Machine.execPushDbgier s
  | .popDbgier => Sys2Proof.Machine.execPopDbgier s
  | .pushXar0 => Sys2Proof.Machine.execPushXar0 s
  | .pushXar1 => Sys2Proof.Machine.execPushXar1 s
  | .pushXar2 => Sys2Proof.Machine.execPushXar2 s
  | .pushXar3 => Sys2Proof.Machine.execPushXar3 s
  | .pushXar4 => Sys2Proof.Machine.execPushXar4 s
  | .pushXar5 => Sys2Proof.Machine.execPushXar5 s
  | .pushXar6 => Sys2Proof.Machine.execPushXar6 s
  | .pushXar7 => Sys2Proof.Machine.execPushXar7 s
  | .popXar0 => Sys2Proof.Machine.execPopXar0 s
  | .popXar1 => Sys2Proof.Machine.execPopXar1 s
  | .popXar2 => Sys2Proof.Machine.execPopXar2 s
  | .popXar3 => Sys2Proof.Machine.execPopXar3 s
  | .popXar4 => Sys2Proof.Machine.execPopXar4 s
  | .popXar5 => Sys2Proof.Machine.execPopXar5 s
  | .popXar6 => Sys2Proof.Machine.execPopXar6 s
  | .popXar7 => Sys2Proof.Machine.execPopXar7 s
  | .pushXt => Sys2Proof.Machine.execPushXt s
  | .popXt => Sys2Proof.Machine.execPopXt s
  | .pushAr1hAr0h => Sys2Proof.Machine.execPushAr1hAr0h s
  | .popAr1hAr0h => Sys2Proof.Machine.execPopAr1hAr0h s
  | .pushSt0 => Sys2Proof.Machine.execPushSt0 s
  | .popSt0 => Sys2Proof.Machine.execPopSt0 s
  | .pushSt1 => Sys2Proof.Machine.execPushSt1 s
  | .popSt1 => Sys2Proof.Machine.execPopSt1 s
  | .pread loc => Sys2Proof.Machine.execPread loc s
  | .pushIer => Sys2Proof.Machine.execPushIer s
  | .pwrite loc => Sys2Proof.Machine.execPwrite loc s
  | .b cond c => Sys2Proof.Machine.execB cond c s
  | .bf cond c => Sys2Proof.Machine.execBf cond c s
  | .sb cond c => Sys2Proof.Machine.execSb cond c s
  | .sbfEq c => Sys2Proof.Machine.execSbfEq c s
  | .sbfNeq c => Sys2Proof.Machine.execSbfNeq c s
  | .sbfTc c => Sys2Proof.Machine.execSbfTc c s
  | .sbfNtc c => Sys2Proof.Machine.execSbfNtc c s
  | .banz n c => Sys2Proof.Machine.execBanz n c s
  | .barEq n m c => Sys2Proof.Machine.execBarEq n m c s
  | .barNeq n m c => Sys2Proof.Machine.execBarNeq n m c s
  | .xb cond c => Sys2Proof.Machine.execXb cond c s
  | .xbanzInd c => Sys2Proof.Machine.execXbanzInd c s
  | .xbanzIndInc c => Sys2Proof.Machine.execXbanzIndInc c s
  | .xbanzIndDec c => Sys2Proof.Machine.execXbanzIndDec c s
  | .xbanzInd0Inc c => Sys2Proof.Machine.execXbanzInd0Inc c s
  | .xbanzInd0Dec c => Sys2Proof.Machine.execXbanzInd0Dec c s
  | .xcall cond c => Sys2Proof.Machine.execXcall cond c s
  | .xretc cond => Sys2Proof.Machine.execXretc cond s
  | .lcr c => Sys2Proof.Machine.execLcr c s
  | .lretr => Sys2Proof.Machine.execLretr s
  | .rptImm c => Sys2Proof.Machine.execRptImm c s
  | .rptLoc16 loc => Sys2Proof.Machine.execRptLoc16 loc s
  | .loopnz loc c => Sys2Proof.Machine.execLoopnz loc c s
  | .loopz loc c => Sys2Proof.Machine.execLoopz loc c s
  | .idle => Sys2Proof.Machine.execIdle s
  | .intr c => Sys2Proof.Machine.execIntr c s
  | .intrNmi => Sys2Proof.Machine.execIntrNmi s
  | .trap c => Sys2Proof.Machine.execTrap c s
  | .iret => Sys2Proof.Machine.execIret s
  | .aborti => Sys2Proof.Machine.execAborti s
  | .iack c => Sys2Proof.Machine.execIack c s
  | .estop0 => Sys2Proof.Machine.execEstop0 s
  | .estop1 => Sys2Proof.Machine.execEstop1 s

end Sys2Proof.Machine
end

