-- ==== Sys2Proof/Machine/Fetch.lean ====
section
/-! DEFINITION. Fetching the instruction at the program counter: the words, the decoder, and the operating modes in
which the spec describes instructions at all. -/

namespace Sys2Proof.Machine

/-- An instruction word fetched from program space. A word stored since the pipeline was last flushed may have been
fetched before the store (R130, D9). -/
def fetchWord (s : State) (a : ProgAddr) : Res Word := do
  progAccess (s.progWord a)
  if s.stores.any (fun k => k.word == s.progWord a) then .error (.staleFetch (s.progWord a))
  else return s.mem.word (s.progWord a)

/-- The instruction at the pc in C28x object mode, `none` for an illegal instruction; the second word is fetched only
where the first calls for it (R27, R142). -/
def fetchInstr (s : State) : Res (Option Instr) := do
  let w ← fetchWord s s.pc
  match decode [w] with
  | .ok (i, _) => return some i
  | .error (.illegalInstruction _) => return none
  | .error (.secondWordMissing _) =>
    let v ← fetchWord s (s.pc + 1)
    match decode [w, v] with
    | .ok (i, _) => return some i
    | .error _ => .error (.unlistedSecondWord w v)
  | .error _ => .error (.unlistedWord w)

/-- The word of C28OBJ, which decodes identically in both object modes (R175, R586). -/
def wordC28obj : Word := 0x561F

/-- Why nothing but a reset is described in the present state, if so: an emulator is attached (D5, U24); OBJMODE = 0
with AMODE = 1, which is no operating mode (R5, U1); C28x object mode with M0M1MAP = 0 (R48, U2). -/
def State.modeStop (s : State) : Option Refusal :=
  if Config.emulatorAttached then some .emulatorAttached
  else if s.st1.objmode then if s.st1.m0m1map then none else some .m0m1mapCleared
  else if s.st1.amode then some .unlistedOperatingMode
  else none

/-- The instruction at the pc: with OBJMODE = 0 only C28OBJ is described (R586, U13). -/
def currentInstr (s : State) : Res (Option Instr) := do
  if s.st1.objmode then fetchInstr s
  else
    let w ← fetchWord s s.pc
    if w = wordC28obj then return some .setcObjmode
    else .error .c27xObjectMode

/-- The words of an opcode-table word stored where the next instruction is fetched, in C28x object mode, with nothing
to be served before it: no reset request, no repeat in progress, no idle state, and the boundary one at which no
interrupt is served. -/
def State.placeTableWord (s : State) (nbits w : Nat) : State :=
  let ws := tableWords nbits w
  let st1 := { s.st1 with objmode := true, m0m1map := true, idlestat := false }
  { s with
    st1 := st1, resetRequest := false, repeating := false, rptAddr := none, isrStart := true, stores := [], reads := [],
    mem := (s.mem.setWord s.pc.toNat (ws.getD 0 0)).setWord (s.pc + 1).toNat (ws.getD 1 0) }

end Sys2Proof.Machine
end

