-- ==== Sys2Proof/Machine/Run.lean ====
section
/-! DEFINITION. What happens at an instruction boundary (R505, R507, R512, R519, R535, R536), running one instruction,
and repeating it under RPT (R454). -/

namespace Sys2Proof.Machine

/-! ## The boundary -/

/-- What the CPU does next. -/
inductive Event where
  /-- The reset sequence (R582). -/
  | reset
  /-- The NMI entry (R535). -/
  | nmi
  /-- The entry of the approved maskable interrupt of highest rank, named by its bit (R505, R507). -/
  | maskable (b : BitVec 4)
  /-- The idle CPU goes on waiting (R457). -/
  | wait
  /-- The instruction at the pc runs. -/
  | run
deriving DecidableEq, Repr

/-- The choice at an instruction boundary. Reset is honoured at once (R536). After an entry the first instruction of
the routine runs before anything is served (R519, D20), and nothing is served between RPT and its last repetition
(D13). NMI precedes the maskable interrupts (R505). An idle CPU waits until an interrupt enabled in IER is flagged,
whatever INTM is (R457, D25). -/
def nextEvent (s : State) : Event :=
  if s.resetRequest then .reset
  else if s.isrStart || s.repeating then .run
  else if s.nmiPending then .nmi
  else
    match highestLine s.approved with
    | some b => .maskable b
    | none => if s.st1.idlestat && s.enabledLines == 0 then .wait else .run

/-! ## One instruction -/

/-- An instruction begins: its decoding clears IDLESTAT (R54), and the routine of a just-taken interrupt has begun
(R519). The words it reads are marked (log 21). -/
def State.beginInstr (s : State) (reads : List AccessMark) : State :=
  { s with st1 := { s.st1 with idlestat := false }, isrStart := false, icount := s.icount + 1, reads := reads }

/-- The instructions whose rules say "Repeatable" (R251 to R254, R362 to R364, R369 to R371, R374, R420, R422). R254
says it by "as rule R253". -/
def repeatable : Instr → Bool
  | .subcu _ | .subcul _ => true
  | .normXarInc _ | .normXarDec _ | .normInd | .normIndInc | .normIndDec | .normInd0Inc | .normInd0Dec => true
  | .macPma _ _ | .macXar7 _ | .macXar7Inc _ | .xmac _ _ | .xmacd _ _ => true
  | .dmacXar7 _ | .dmacXar7Inc _ | .imaclXar7 _ | .imaclXar7Inc _ | .qmaclXar7 _ | .qmaclXar7Inc _ => true
  | .pread _ | .pwrite _ => true
  | _ => false

/-- Whether RPT repeats an instruction: a repeatable one, or any under the parameter `rpt_nonrepeatable` (R151, U5). -/
def repeats (i : Instr) : Bool :=
  match Config.rptNonrepeatable with
  | .once => repeatable i
  | .repeats => true

/-- A repeat that the next instruction does not take up: RPTC is cleared (R151, U5). -/
def State.dropRepeat (s : State) : State := { s with rptc := 0, repeating := false, rptAddr := none }

/-- After one execution of the repeated instruction, from `s` to `t`: the repeat ends when RPTC is 0, else RPTC goes
down and the instruction runs again (R454). An instruction that trapped has ended the repeat. -/
def endRepetition (s t : State) : State :=
  if !t.repeating then t
  else if s.rptc = 0 then { t with repeating := false, rptAddr := none }
  else { t with rptc := s.rptc - 1, pc := s.pc }

/-- A decoded instruction run, repeated where RPT precedes it (R454). -/
def runDecoded (i : Instr) (s : State) : Host.Outcome State Fault Refusal :=
  if s.repeating then
    if repeats i then
      match exec i s with
      | .next t => .next (endRepetition s t)
      | .fault f => .fault f
      | .refused r => .refused r
    else exec i s.dropRepeat
  else exec i s

/-- The instruction at the pc run; an illegal one takes its trap (R537). That an illegal word, too, counts as an
instruction that begins, so that IDLESTAT is cleared before the trap saves ST1, is a DESIGN CHOICE (log 39): R54 names
a valid instruction. So is that an illegal word after RPT leaves RPTC as it stood while its trap ends the repeat (log 22):
R151 and R454 speak of instructions. -/
def runInstr (s : State) : Host.Outcome State Fault Refusal :=
  match currentInstr s with
  | .ok (some i) => runDecoded i (s.beginInstr (s.readsWith i))
  | .ok none => (illegalTrap (s.beginInstr [])).toOutcome
  | .error e => Res.toOutcome (.error e)

/-- One step. In a state no operating mode describes only a reset is taken (R5, R48). The return address of an interrupt
is the pc, where the first instruction not executed stands (R513). -/
def runEvent (s : State) : Host.Outcome State Fault Refusal :=
  match nextEvent s, s.modeStop with
  | .reset, _ => (resetSequence s).toOutcome
  | _, some r => .refused r
  | .nmi, none => (trapEntry { s with nmiPending := false } 18 s.pc).toOutcome
  | .maskable b, none => (maskableEntry s b s.pc).toOutcome
  | .wait, none => .next s
  | .run, none => runInstr s

end Sys2Proof.Machine
end

