-- ==== Sys2Proof/Machine/Step.lean ====
section
/-! DEFINITION. The step function, and a table word placed where the step fetches. -/

namespace Sys2Proof.Machine

/-- One step of the machine: the event of the instruction boundary (`runEvent`). -/
def step (s : State) : Host.Outcome State Fault Refusal := runEvent s

/-- The state with an instruction stored where `step` fetches, so that the next step runs exactly it
(`State.placeTableWord`). -/
def State.withFetchWord (s : State) (nbits w : Nat) : State := s.placeTableWord nbits w

end Sys2Proof.Machine
end

