-- ==== Sys2Proof/Safety.lean ====
section
/-! DEFINITION. The terms statements use: the invariant of the machine, a safe run, when an operand can be read or
written, what a store leaves, and what an interrupt entry leaves. -/

namespace Sys2Proof.Machine

/-! ## The invariant and safe runs -/

/-- What every step keeps: memory in its canonical form; every store mark names a word program space reaches, and no
word twice; no mark is from an instruction yet to begin; a temporary program address exists only during a repeat;
DBGSTAT is the constant of the parameter, since no emulator is attached (R66). -/
structure State.Inv (s : State) : Prop where
  memory : s.mem.wf = true
  reach : ∀ k ∈ s.stores, k.word < 4194304
  distinct : (s.stores.map AccessMark.word).Nodup
  past : ∀ k ∈ s.stores, k.stamp ≤ s.icount
  readsPast : ∀ k ∈ s.reads, k.stamp ≤ s.icount
  address : s.repeating = false → s.rptAddr = none
  debug : s.dbgstat = Config.dbgstat

/-- A run of `n` steps answers a state at every step: it meets no fault and no refusal. -/
def runsSafely : Nat → State → Prop
  | 0, _ => True
  | n + 1, s => ∃ t, step s = .next t ∧ runsSafely n t

/-! ## Operands -/

/-- A `loc16` operand can be read: the instruction does not trap, and the read answers the word `v` and the state `t`
after the pointer update of the mode. -/
def Reads16 (s : State) (loc : Loc) (v : Word) (t : State) : Prop :=
  locTraps .word loc s = false ∧ readLoc16 s loc = .ok (v, t)

/-- A `loc32` operand can be read. -/
def Reads32 (s : State) (loc : Loc) (v : Long) (t : State) : Prop :=
  locTraps .long loc s = false ∧ readLoc32 s loc = .ok (v, t)

/-- A `loc` operand selects the place `pl`, and `t` is the state after the pointer update of the mode. -/
def Selects (w : Width) (s : State) (loc : Loc) (pl : Place) (t : State) : Prop :=
  locTraps w loc s = false ∧ resolve w loc s = .ok (pl, t)

/-- A 16-bit store to the place is allowed: a register always; a data-space word outside the emulation registers,
existing and not protected (R104, R106, R55), that the previous instruction did not reach through program space
(R596). -/
def Place.Open16 (t : State) : Place → Prop
  | .mem a => t.dataAccess a.toNat = .ok () ∧ t.unorderedWrite a.toNat false = false
  | .reg _ => True

/-- A 32-bit store to the place is allowed: both words of the aligned pair are open (R109). -/
def Place.Open32 (t : State) : Place → Prop
  | .mem a => Place.Open16 t (.mem (evenAddr a)) ∧ Place.Open16 t (.mem (evenAddr a + 1))
  | .reg _ => True

/-! ## Stores -/

/-- `u` is `t` with the word `v` stored in the place: for a data-space address the word reads as `v`, every byte
outside it reads as before, and nothing else has changed but the marks of stores (log 20); for a register, the register
is written. -/
def Stored16 (t : State) (pl : Place) (v : Word) (u : State) : Prop :=
  match pl with
  | .mem a =>
    u = { t with mem := u.mem, stores := t.mark a.toNat false } ∧ u.mem.word a.toNat = v ∧
      ∀ b, b ≠ 2 * a.toNat → b ≠ 2 * a.toNat + 1 → u.mem.get b = t.mem.get b
  | .reg r => u = writeReg16 t r v

/-- `u` is `t` with the long word `v` stored in the place: at a data-space address, in the aligned pair of words, the
low word at the even address (R109). -/
def Stored32 (t : State) (pl : Place) (v : Long) (u : State) : Prop :=
  match pl with
  | .mem a =>
    u = { t with mem := u.mem, stores := u.stores } ∧ u.mem.word (evenAddr a).toNat = lowWord v ∧
      u.mem.word (evenAddr a + 1).toNat = highWord v ∧
      ∀ b, b / 2 ≠ (evenAddr a).toNat → b / 2 ≠ (evenAddr a + 1).toNat → u.mem.get b = t.mem.get b
  | .reg r => u = writeReg32 t r v

/-! ## Outcomes of an instruction that changes registers -/

/-- ACC and ST0 written, the pc past the instruction, everything else as in `t`. -/
def accNext (t : State) (len : ProgAddr) (r : Long × St0) : Host.Outcome State Fault Refusal :=
  .next { t with acc := r.1, st0 := r.2, pc := t.pc + len }

/-- P and ST0 written. -/
def pNext (t : State) (len : ProgAddr) (r : Long × St0) : Host.Outcome State Fault Refusal :=
  .next { t with p := r.1, st0 := r.2, pc := t.pc + len }

/-- ST0 written. -/
def st0Next (t : State) (len : ProgAddr) (f : St0) : Host.Outcome State Fault Refusal :=
  .next { t with st0 := f, pc := t.pc + len }

/-- AH or AL and ST0 written, the other half of ACC as it was. -/
def axNext (t : State) (len : ProgAddr) (ax : AccHalf) (r : Word × St0) : Host.Outcome State Fault Refusal :=
  match ax with
  | .ah => .next { t with acc := longOf r.1 (lowWord t.acc), st0 := r.2, pc := t.pc + len }
  | .al => .next { t with acc := longOf (highWord t.acc) r.1, st0 := r.2, pc := t.pc + len }

/-- ACC:P and ST0 written. -/
def accPNext (t : State) (len : ProgAddr) (r : Quad × St0) : Host.Outcome State Fault Refusal :=
  .next { t with acc := r.1.extractLsb' 32 32, p := r.1.extractLsb' 0 32, st0 := r.2, pc := t.pc + len }

/-! ## Fetch -/

/-- The words at the pc are those of `i` in C28x object mode, and none of them was stored since the pipeline was last
flushed (R27, R130, R142). -/
def Fetched (s : State) (i : Instr) : Prop :=
  s.st1.objmode = true ∧ s.st1.m0m1map = true ∧
    (∃ rest, decode [s.mem.word s.pc.toNat, s.mem.word (s.pc + 1).toNat] = .ok (i, rest)) ∧
    ∀ k ∈ s.stores, ∀ j < i.words, k.word ≠ (s.pc + BitVec.ofNat 22 j).toNat

/-- The operating modes the spec describes: not OBJMODE = 0 with AMODE = 1 (R5), and not C28x object mode with
M0M1MAP = 0 (R48). -/
def State.described (s : State) : Prop :=
  ¬ (s.st1.objmode = false ∧ s.st1.amode = true) ∧ ¬ (s.st1.objmode = true ∧ s.st1.m0m1map = false)

/-! ## Interrupt entry -/

/-- The hardware priority of the maskable line whose IFR bit is `b`, 1 the highest: RTOSINT 4, INT1 to INT14 5 to 18,
DLOGINT 19 (R503). -/
def linePriority (b : BitVec 4) : Nat := if b = 15 then 4 else b.toNat + 5

/-- The word address of word `k` of the context a save from SP = S writes: B + k with B = (S + 1) AND 0xFFFE, modulo
2^16 (R520). -/
def State.frameWord (s : State) (k : Nat) : Nat := (((s.sp + 1) &&& 0xFFFE#16) + BitVec.ofNat 16 k).toNat

/-- No word of the context would fall on an emulation register (R104). -/
def State.canSave (s : State) : Prop := ∀ k < 14, ¬ (0x800 ≤ s.frameWord k ∧ s.frameWord k ≤ 0x9FF)

/-- The fourteen words a context save stores, from the lowest address up (R520). -/
def State.contextWords (s : State) (ret : ProgAddr) : List Word :=
  [s.st0Word, s.t, lowWord s.acc, highWord s.acc, lowWord s.p, highWord s.p, s.arOf .xar0, s.arOf .xar1, s.st1Word,
   s.dp, s.ier, s.dbgstat, ret.extractLsb' 0 16, (ret.extractLsb' 16 6).zeroExtend 16]

/-- The vector of entry `n` of the table: at Base + 2n the 16 LSBs, at the next address the 6 MSBs (R503, R504). -/
def State.vectorOf (s : State) (n : BitVec 5) : ProgAddr :=
  (s.mem.word (s.progWord ((if s.st1.vmap then 0x3FFFC0 else 0) + 2 * n.zeroExtend 22 + 1))).extractLsb' 0 6 ++
    s.mem.word (s.progWord ((if s.st1.vmap then 0x3FFFC0 else 0) + 2 * n.zeroExtend 22))

/-- `t` is `s` after the entry through vector `n` with the return address `ret`, `mask` being the bits cleared in IFR
and IER (R510 to R523): the context saved and no other byte of memory changed, SP up by 15, INTM and DBGM set, LOOP,
EALLOW and IDLESTAT cleared, the pc at the vector; nothing else changed but what ends a repeat (R512), blocks the
next boundary (R519) and marks accesses (log 20, 21). -/
def Entered (s t : State) (n : BitVec 5) (ret : ProgAddr) (mask : Word) : Prop :=
  t = { s with mem := t.mem, stores := t.stores, reads := [], sp := s.sp + 15,
               ifr := s.ifr &&& ~~~mask, ier := s.ier &&& ~~~mask,
               st1 := { s.st1 with intm := true, dbgm := true, loop := false, eallow := false, idlestat := false },
               pc := s.vectorOf n, isrStart := true, repeating := false, rptAddr := none } ∧
    (∀ k < 14, t.mem.word (s.frameWord k) = (s.contextWords ret).getD k 0) ∧
    ∀ b, (∀ k < 14, b / 2 ≠ s.frameWord k) → t.mem.get b = s.mem.get b

end Sys2Proof.Machine
end

