-- ==== Sys2Proof/Certificates/Slice0/Obligations.lean ====
section
/-! DEFINITION. The statements for the provers: encoding, the step, reset and interrupts, the invariant, the writers
of each register, the operands, the ALU procedures, and what each instruction does. -/

open Sys2Proof Sys2Proof.Machine

/-! ## Encoding -/

/-- R142, R143, R150, R152: the words the encoder writes for a well-formed instruction decode to it, with every
operand at every value, whatever follows them. -/
def Obligations.DecodeOfEncode : Prop :=
  ∀ (i : Instr) (rest : List (BitVec 16)), i.wellFormed = true → decode (encode i ++ rest) = .ok (i, rest)

/-- R140, R142, R401: what the decoder answers is a well-formed instruction, and it takes from the front of the list
exactly the one or two words that instruction has. -/
def Obligations.DecodedIsWellFormed : Prop :=
  ∀ (ws : List (BitVec 16)) (i : Instr) (rest : List (BitVec 16)), decode ws = .ok (i, rest) →
    i.wellFormed = true ∧ (i.words = 1 ∨ i.words = 2) ∧ ∃ front, ws = front ++ rest ∧ front.length = i.words

/-- Words written out from the encodings of the rules, one or more of each family: R171, R185 (status), R211, R253
(ACC), R271, R288 (16-bit), R311, R329 (shifts), R362, R374 (multiply), R398, R414 (moves), R446, R451, R459
(control). -/
def Obligations.DecodeOfRuleWords : Prop :=
  decode [0b0011101100010001#16] = .ok (.setcMode 0x11, []) ∧
  decode [0b0101011001100010#16, 0b0000000010101001#16] = .ok (.movuOvcLoc16 0xA9, []) ∧
  decode [0b0101011000000100#16, 0b0000101110000010#16] = .ok (.addAccLoc16Shl 11 0x82, []) ∧
  decode [0b1111111101111011#16] = .ok (.normXarInc .xar3, []) ∧
  decode [0b1001010101000101#16] = .ok (.addAxLoc16 .ah 0x45, []) ∧
  decode [0b0101011000001001#16, 0b0000110000000111#16] = .ok (.tclr 12 0x07, []) ∧
  decode [0b1111111100111001#16] = .ok (.lslAccImm 9, []) ∧
  decode [0b0101011001011011#16] = .ok (.lsr64T, []) ∧
  decode [0b0001010010000100#16, 0x1234#16] = .ok (.macPma 0x84 0x1234, []) ∧
  decode [0b0101011001001111#16, 0b1000011110000001#16] = .ok (.qmaclXar7Inc 0x81, []) ∧
  decode [0b0101011000101011#16, 0b0000101000000001#16] = .ok (.movLoc16AxCond .ah .nov 0x01, []) ∧
  decode [0b1010001010111101#16] = .ok (.pushXar3, []) ∧
  decode [0b1000111110010110#16, 0xFFFE#16] = .ok (.barEq .xar2 .xar6 0xFFFE, []) ∧
  decode [0b0111011001111111#16, 0x8000#16] = .ok (.lcr 0x3F8000, []) ∧
  decode [0b0000000000110011#16] = .ok (.trap 19, [])

/-! ## The step -/

/-- R27, R54, R519: where the instruction boundary calls for an instruction, no repeat is in progress and the words at
the pc are those of `i`, the step is `exec i` from the state in which IDLESTAT is cleared, the block after an
interrupt entry has ended and one more instruction has begun, its reads marked. The fields isrStart, icount and reads
are the model's (log 20, 21). -/
def Obligations.StepRunsDecoded : Prop :=
  ∀ (s : State) (i : Instr), nextEvent s = .run → s.repeating = false → Fetched s i →
    step s = exec i { s with st1 := { s.st1 with idlestat := false }, isrStart := false, icount := s.icount + 1,
                             reads := s.readsWith i }

/-- R454, R151: between RPT and its last repetition a step runs the repeatable instruction at the pc; it stays there
with RPTC one less unless RPTC was 0, when the repeat ends; a trap it takes ends the repeat. An instruction that is
not repeatable runs once with RPTC cleared. That a repetition is a step of its own, and the temporary address, are the
model's choice (log 22). -/
def Obligations.StepRepeatsUnderRpt : Prop :=
  ∀ (s : State) (i : Instr), nextEvent s = .run → s.repeating = true → Fetched s i →
    let b := { s with st1 := { s.st1 with idlestat := false }, isrStart := false, icount := s.icount + 1,
                      reads := s.readsWith i }
    (repeatable i = false → step s = exec i { b with rptc := 0, repeating := false, rptAddr := none }) ∧
    (repeatable i = true → ∀ t, exec i b = .next t →
      (t.repeating = false → step s = .next t) ∧
      (t.repeating = true → s.rptc = 0 → step s = .next { t with repeating := false, rptAddr := none }) ∧
      (t.repeating = true → s.rptc ≠ 0 → step s = .next { t with rptc := s.rptc - 1, pc := s.pc }))

/-- R457, R505, R507, R519, R535, R536, R546: what an instruction boundary does. Reset comes first; after an entry or
during a repeat the instruction runs; then NMI; then, with INTM = 0, the flagged and enabled line of highest priority;
else an idle CPU with no enabled line flagged waits, staying as it is in an operating mode the spec describes, and
otherwise the instruction runs. The place of a request between steps, the one order of all events and the waiting step
are the model's choice (log 23, 24). -/
def Obligations.BoundaryChoosesByPriority : Prop :=
  ∀ s : State,
    (s.resetRequest = true → nextEvent s = .reset) ∧
    (s.resetRequest = false → s.isrStart = true ∨ s.repeating = true → nextEvent s = .run) ∧
    (s.resetRequest = false → s.isrStart = false → s.repeating = false →
      (s.nmiPending = true → nextEvent s = .nmi) ∧
      (s.nmiPending = false →
        (∀ b, nextEvent s = .maskable b ↔
          s.st1.intm = false ∧ (s.ifr &&& s.ier).getLsbD b.toNat = true ∧
            ∀ c : BitVec 4, (s.ifr &&& s.ier).getLsbD c.toNat = true → linePriority b ≤ linePriority c) ∧
        (s.st1.intm = true ∨ s.ifr &&& s.ier = 0 →
          nextEvent s = if s.st1.idlestat = true ∧ s.ifr &&& s.ier = 0 then .wait else .run))) ∧
    (nextEvent s = .wait → s.described → step s = .next s)

/-- R5, R48, R130, R146, R586 (D9, D10): OBJMODE = 0 with AMODE = 1 and OBJMODE = 1 with M0M1MAP = 0 are refused in every
step but a reset; with OBJMODE = 0 only C28OBJ runs, under a repeat too, which it ends, and every other word is refused;
in C28x mode a first or second word stored since the last flush is refused, and so are a first word no row of the table
fits and a second word no row of its first word fits. The marks of stored words and the decoding under OBJMODE = 0 are
the model's (log 11, 13, 20). -/
def Obligations.UndescribedFetchesRefused : Prop :=
  ∀ s : State,
    (nextEvent s ≠ .reset →
      (s.st1.objmode = true → s.st1.m0m1map = false → step s = .refused .m0m1mapCleared) ∧
      (s.st1.objmode = false → s.st1.amode = true → step s = .refused .unlistedOperatingMode)) ∧
    (nextEvent s = .run → s.st1.objmode = false → s.st1.amode = false →
      (∀ k ∈ s.stores, k.word ≠ s.progWord s.pc) →
      (s.mem.word (s.progWord s.pc) ≠ 0x561F#16 → step s = .refused .c27xObjectMode) ∧
      (s.mem.word (s.progWord s.pc) = 0x561F#16 →
        step s = .next { s with st1 := { s.st1 with objmode := true, idlestat := false }, isrStart := false,
                                icount := s.icount + 1, stores := [], reads := [], pc := s.pc + 1,
                                rptc := if s.repeating then 0 else s.rptc, repeating := false,
                                rptAddr := if s.repeating then none else s.rptAddr })) ∧
    (nextEvent s = .run → s.st1.objmode = true → s.st1.m0m1map = true →
      let w := s.mem.word s.pc.toNat
      let v := s.mem.word (s.pc + 1).toNat
      ((∃ k ∈ s.stores, k.word = s.pc.toNat) → step s = .refused (.staleFetch s.pc.toNat)) ∧
      ((∀ k ∈ s.stores, k.word ≠ s.pc.toNat) →
        (decode [w] = .error (.unlistedWord w) → step s = .refused (.unlistedWord w)) ∧
        (decode [w] = .error (.secondWordMissing w) →
          ((∃ k ∈ s.stores, k.word = (s.pc + 1).toNat) → step s = .refused (.staleFetch (s.pc + 1).toNat)) ∧
          ((∀ k ∈ s.stores, k.word ≠ (s.pc + 1).toNat) →
            decode [w, v] = .error (.unlistedSecondWord w v) → step s = .refused (.unlistedSecondWord w v)))))

/-! ## Reset -/

/-- R72: the register values after reset, with any content of memory, and how ST1 and SP follow the two input signals. -/
def Obligations.ResetRegisterValues : Prop :=
  State.reset = State.powerUp [] ∧
  ∀ m : Memory,
    let s := State.powerUp m
    s.mem = m ∧ s.acc = 0 ∧ s.p = 0 ∧ s.xt = 0 ∧ (∀ n, s.xarOf n = 0) ∧ s.dp = 0 ∧ s.sp = 0x0400 ∧ s.pc = 0x3FFFC0 ∧
    s.rpc = 0 ∧ s.st0Word = 0x0000 ∧ s.st1Word = 0x080B ∧ s.ifr = 0 ∧ s.ier = 0 ∧ s.dbgier = 0 ∧
    s.st1Word = 0x0003 ||| ((if Config.m0m1mapPin then 1 else 0) <<< 11) |||
      ((if Config.vmapPin then 1 else 0) <<< 3) ∧
    s.sp = (if Config.m0m1mapPin then 0x0400 else 0x0000)

/-- R582, R583: a requested reset gives every register its reset value, clears the pending requests and the blocking
condition, leaves memory, and puts the pc at the address that vector 0 holds. When a requested reset is taken, and what
the model's own fields then hold, is the model's choice (log 1, 20). The pc of the state right after reset is the address
of vector 0, by the VMAP signal: the inference R72 marks from R58 and R503. -/
def Obligations.ResetSequenceTaken : Prop :=
  State.reset.pc = (if Config.vmapPin then 0x3FFFC0 else 0x000000) ∧
  ∀ s : State, s.resetRequest = true →
    step s = .next { State.reset with
      pc := (s.mem.word 0x3FFFC1).extractLsb' 0 6 ++ s.mem.word 0x3FFFC0
      resetRequest := false, mem := s.mem, acks := s.acks, icount := s.icount }

/-- The state right after reset satisfies the invariant, and so does the machine at power-up with any canonical content
of memory. -/
def Obligations.ResetSatisfiesInv : Prop := State.reset.Inv ∧ ∀ m : Memory, m.wf = true → (State.powerUp m).Inv

/-! ## Interrupts and traps -/

/-- R503, R507, R513, R520, R521, R535: a maskable interrupt the boundary approves, and a pending NMI, are taken in an
operating mode the spec describes: the step answers the entry through the line's vector with the pc as return address;
a maskable entry clears the line's bit in IFR and IER, an NMI entry neither. What the step does to the model's own
fields is log 20, when a request is seen log 23. -/
def Obligations.HardwareInterruptEntry : Prop :=
  ∀ s : State, s.canSave → s.described →
    (∀ b, nextEvent s = .maskable b →
      ∃ t, step s = .next t ∧ Entered s t (b.zeroExtend 5 + 1) s.pc (1#16 <<< b.toNat)) ∧
    (nextEvent s = .nmi → ∃ t, step s = .next t ∧ Entered { s with nmiPending := false } t 18 s.pc 0)

/-- R458, R459, R522, R523: TRAP, INTR of a maskable line whatever the enable bits, and INTR NMI complete, with the
address after the instruction as return address. -/
def Obligations.SoftwareInterruptEntry : Prop :=
  ∀ s : State, s.canSave →
    (∀ c, ∃ t, exec (.trap c) s = .next t ∧ Entered s t c (s.pc + 1) 0) ∧
    (∃ t, exec .intrNmi s = .next t ∧ Entered s t 18 (s.pc + 1) 0) ∧
    (∃ t, exec (.intr 0) s = .next t ∧ Entered s t 16 (s.pc + 1) 0x8000) ∧
    (∀ c : BitVec 4, c ≠ 0 →
      ∃ t, exec (.intr c) s = .next t ∧ Entered s t (c.zeroExtend 5) (s.pc + 1) (1#16 <<< (c.toNat - 1)))

/-- R537, R538 (D16, log 14, 22, 28, 39): the illegal-instruction trap, vector 19, with the address one above the offender as
return address: a step at the words 0x0000 and 0xFFFF takes it, and so does, instead of executing, every instruction
that decodes a `loc` field while PAGE0 = AMODE = 1, and every instruction with the 32-bit operand `@SP`. -/
def Obligations.IllegalInstructionTraps : Prop :=
  (∀ s : State, nextEvent s = .run → s.st1.objmode = true → s.st1.m0m1map = true → s.canSave →
    (∀ k ∈ s.stores, k.word ≠ s.pc.toNat) →
    s.mem.word s.pc.toNat = 0x0000#16 ∨ s.mem.word s.pc.toNat = 0xFFFF#16 →
    ∃ t, step s = .next t ∧
      Entered { s with st1 := { s.st1 with idlestat := false }, isrStart := false, icount := s.icount + 1 } t 19
        (s.pc + 1) 0) ∧
  ∀ (i : Instr) (w : Width) (loc : Loc) (s : State), locOperand i = some (w, loc) → s.canSave →
    (s.st1.page0 = true ∧ s.st1.amode = true) ∨ (w = .long ∧ loc = 0xAD) →
    ∃ t, exec i s = .next t ∧ Entered s t 19 (s.pc + 1) 0

/-- R520, R530: IRET after a TRAP gives back every register the save covers, at the address after the TRAP, for either
parity of SP; IDLESTAT and LOOP stay cleared, and only the stack words and what a flush and an entry leave differ. The
flush by IRET, isrStart and the cleared marks are log 20; what IRET loads is log 26. -/
def Obligations.IretUndoesTrap : Prop :=
  ∀ (s t : State) (c : BitVec 5), s.canSave → exec (.trap c) s = .next t →
    exec .iret t = .next { s with
      mem := t.mem, stores := [], reads := [], pc := s.pc + 1, st1 := { s.st1 with loop := false, idlestat := false }
      isrStart := true, repeating := false, rptAddr := none }

/-- R530, R460: IRET completes wherever the fourteen stacked words can be read, and loads what they hold: return
address, IER, ST1 but IDLESTAT and LOOP, DP, AR0 and AR1, P, ACC, ST0 and T; SP ends 15 lower, on the old SP. What
IRET keeps is log 26, the flush log 20. -/
def Obligations.IretLoadsStackedContext : Prop :=
  ∀ (s : State) (w : Nat → Word),
    (∀ k < 14, ¬ (0x800 ≤ ((((s.sp - 14) &&& 0xFFFE#16) + BitVec.ofNat 16 k).toNat) ∧
        ((((s.sp - 14) &&& 0xFFFE#16) + BitVec.ofNat 16 k).toNat) ≤ 0x9FF) ∧
      s.unordered (((s.sp - 14) &&& 0xFFFE#16) + BitVec.ofNat 16 k).toNat false = false ∧
      w k = s.mem.word (((s.sp - 14) &&& 0xFFFE#16) + BitVec.ofNat 16 k).toNat) →
    exec .iret s = .next { s with
      st0 := St0.ofWord (w 0), xt := longOf (w 1) (lowWord s.xt), acc := longOf (w 3) (w 2), p := longOf (w 5) (w 4)
      xar := (s.xar.set .xar1 (longOf (highWord (s.xarOf .xar1)) (w 7))).set .xar0
        (longOf (highWord (s.xarOf .xar0)) (w 6))
      st1 := { St1.load s.st1 (w 8) with idlestat := s.st1.idlestat, loop := s.st1.loop }
      dp := w 9, ier := w 10, pc := (w 13).extractLsb' 0 6 ++ w 12, sp := s.sp - 15, stores := [],
      reads := [] }

/-! ## The invariant -/

/-- R110, R454, R66: every step keeps the invariant, from every state that has it: memory in its canonical form, the
store marks naming distinct reachable words, no mark from an instruction yet to begin, no temporary address outside a
repeat, DBGSTAT the constant of its parameter. The clauses on marks are about the model's own fields (log 20, 21), the
one on DBGSTAT rests on log 5. -/
def Obligations.StepKeepsInv : Prop := ∀ s t : State, s.Inv → step s = .next t → t.Inv

/-! ## Which instructions change a register -/

/-- R28, R62, R63, R64, R66, R462: RPC changes only by LCR and LRETR, DBGIER by POP DBGIER, IFR by OR IFR, AND IFR and
INTR, IER by its moves, OR, AND, INTR and IRET, DP by IRET; acknowledge events come from IACK alone; DBGSTAT, the
pending requests of NMI and reset and the count of instructions are no instruction's. The acknowledge events are a
list of the model's (log 27). -/
def Obligations.SystemRegisterWriters : Prop :=
  ∀ (i : Instr) (s t : State), exec i s = .next t →
    (t.rpc ≠ s.rpc → i = .lretr ∨ ∃ c, i = .lcr c) ∧
    (t.dbgier ≠ s.dbgier → i = .popDbgier) ∧
    (t.ifr ≠ s.ifr → (∃ c, i = .orIfr c ∨ i = .andIfr c) ∨ ∃ c, i = .intr c) ∧
    (t.ier ≠ s.ier →
      i = .iret ∨ (∃ l, i = .movIerLoc16 l) ∨ (∃ c, i = .orIer c ∨ i = .andIer c) ∨ ∃ c, i = .intr c) ∧
    (t.dp ≠ s.dp → i = .iret) ∧
    (t.acks ≠ s.acks → ∃ c, i = .iack c ∧ t.acks = s.acks ++ [c]) ∧
    t.dbgstat = s.dbgstat ∧ t.nmiPending = s.nmiPending ∧ t.resetRequest = s.resetRequest ∧ t.icount = s.icount

/-- R33, R37, R38, R39, R32: V, once set, is cleared only by a condition that tests it, SAT, SAT64 and loads of ST0;
TC is written only by the instructions of Table 2-9 and loads of ST0; OVM and SXM only by SETC, CLRC and loads of ST0;
PM only by SPM and loads of ST0. -/
def Obligations.St0FieldWriters : Prop :=
  ∀ (i : Instr) (s t : State), exec i s = .next t →
    (s.st0.v = true → t.st0.v = false →
      i = .satAcc ∨ i = .sat64AccP ∨ i = .popSt0 ∨ i = .iret ∨ ∃ c : Cond, (c = .nov ∨ c = .ov) ∧
        ((∃ o, i = .b c o ∨ i = .bf c o ∨ i = .xb c o ∨ i = .xcall c o) ∨ (∃ o, i = .sb c o) ∨ i = .xretc c ∨
          (∃ ax l, i = .movLoc16AxCond ax c l) ∨ (∃ k l, i = .movbLoc16Cond c k l) ∨ ∃ l, i = .movlLoc32AccCond c l)) ∧
    (t.st0.tc ≠ s.st0.tc →
      i = .popSt0 ∨ i = .iret ∨ i = .abstcAcc ∨ i = .csb ∨ (∃ m, i = .setcMode m ∨ i = .clrcMode m) ∨
        i = .cmpr0 ∨ i = .cmpr1 ∨ i = .cmpr2 ∨ i = .cmpr3 ∨ (∃ n, i = .normXarInc n ∨ i = .normXarDec n) ∨
        i = .normInd ∨ i = .normIndInc ∨ i = .normIndDec ∨ i = .normInd0Inc ∨ i = .normInd0Dec ∨
        (∃ b l, i = .tbitImm b l ∨ i = .tclr b l ∨ i = .tset b l) ∨ ∃ l, i = .tbitT l) ∧
    (t.st0.ovm ≠ s.st0.ovm ∨ t.st0.sxm ≠ s.st0.sxm →
      i = .popSt0 ∨ i = .iret ∨ ∃ m, i = .setcMode m ∨ i = .clrcMode m) ∧
    (t.st0.pm ≠ s.st0.pm → i = .popSt0 ∨ i = .iret ∨ ∃ m, i = .spm m)

/-- R47, R48, R52 to R61: the writers of the ST1 bits. OBJMODE, AMODE, XF, M0M1MAP, VMAP, PAGE0 and SPA change only by
their named instructions and loads of ST1; LOOP is set only by a loop instruction and IDLESTAT only by IDLE; EALLOW is
set only by EALLOW, POP ST1 and IRET; INTM and DBGM are cleared only by CLRC, POP ST1 and IRET. -/
def Obligations.St1FieldWriters : Prop :=
  ∀ (i : Instr) (s t : State), exec i s = .next t →
    (t.st1.objmode ≠ s.st1.objmode → i = .setcObjmode ∨ i = .clrcObjmode ∨ i = .popSt1 ∨ i = .iret) ∧
    (t.st1.amode ≠ s.st1.amode → i = .setcAmode ∨ i = .clrcAmode ∨ i = .popSt1 ∨ i = .iret) ∧
    (t.st1.xf ≠ s.st1.xf → i = .setcXf ∨ i = .clrcXf ∨ i = .popSt1 ∨ i = .iret) ∧
    (t.st1.m0m1map ≠ s.st1.m0m1map → i = .popSt1 ∨ i = .iret) ∧
    (t.st1.vmap ≠ s.st1.vmap ∨ t.st1.page0 ≠ s.st1.page0 →
      (∃ m, i = .setcMode m ∨ i = .clrcMode m) ∨ i = .popSt1 ∨ i = .iret) ∧
    (t.st1.spa ≠ s.st1.spa → i = .asp ∨ i = .nasp ∨ i = .popSt1 ∨ i = .iret) ∧
    (s.st1.loop = false → t.st1.loop = true → ∃ l c, i = .loopnz l c ∨ i = .loopz l c) ∧
    (s.st1.idlestat = false → t.st1.idlestat = true → i = .idle) ∧
    (s.st1.eallow = false → t.st1.eallow = true → i = .eallow ∨ i = .popSt1 ∨ i = .iret) ∧
    (s.st1.intm = true → t.st1.intm = false → (∃ m, i = .clrcMode m) ∨ i = .popSt1 ∨ i = .iret) ∧
    (s.st1.dbgm = true → t.st1.dbgm = false → (∃ m, i = .clrcMode m) ∨ i = .popSt1 ∨ i = .iret)

/-! ## Operands -/

/-- R46, R121, R122, R123, R126: the place and the pointer update of the direct, stack and page-0 modes, of the push
and pop modes, and of the modes of the current auxiliary register XAR(ARP), by the bits of the field, for both operand
widths; the last two groups are the same under both values of AMODE. The fields under AMODE = 1 (log 12) and the width
of the reversed carry (log 34) are the model's reading. -/
def Obligations.DirectStackCurrentModes : Prop :=
  ∀ (w : Width) (s : State),
    (s.st1.amode = false → ∀ off : BitVec 6,
      resolve w (0b00#2 ++ off) s = .ok (.mem (0#10 ++ s.dp ++ off), s) ∧
      (s.st1.page0 = false →
        resolve w (0b01#2 ++ off) s = .ok (.mem ((s.sp - off.zeroExtend 16).zeroExtend 32), s)) ∧
      (s.st1.page0 = true → resolve w (0b01#2 ++ off) s = .ok (.mem (off.zeroExtend 32), s))) ∧
    (s.st1.amode = true → ∀ off : BitVec 7,
      resolve w (0b0#1 ++ off) s = .ok (.mem (0#10 ++ s.dp.extractLsb' 1 15 ++ off), s)) ∧
    resolve .word 0xBD s = .ok (.mem (s.sp.zeroExtend 32), { s with sp := s.sp + 1 }) ∧
    resolve .long 0xBD s = .ok (.mem (s.sp.zeroExtend 32), { s with sp := s.sp + 2 }) ∧
    resolve .word 0xBE s = .ok (.mem ((s.sp - 1).zeroExtend 32), { s with sp := s.sp - 1 }) ∧
    resolve .long 0xBE s = .ok (.mem ((s.sp - 2).zeroExtend 32), { s with sp := s.sp - 2 }) ∧
    let c := s.xarOf s.st1.arp
    let rev : Word := ((lowWord c).reverse + (s.arOf .xar0).reverse).reverse
    let ver : Word := ((lowWord c).reverse - (s.arOf .xar0).reverse).reverse
    resolve w 0xB8 s = .ok (.mem c, s) ∧
    resolve .word 0xB9 s = .ok (.mem c, { s with xar := s.xar.set s.st1.arp (c + 1) }) ∧
    resolve .long 0xB9 s = .ok (.mem c, { s with xar := s.xar.set s.st1.arp (c + 2) }) ∧
    resolve .word 0xBA s = .ok (.mem c, { s with xar := s.xar.set s.st1.arp (c - 1) }) ∧
    resolve .long 0xBA s = .ok (.mem c, { s with xar := s.xar.set s.st1.arp (c - 2) }) ∧
    resolve w 0xBB s = .ok (.mem c, { s with xar := s.xar.set s.st1.arp (c + (s.arOf .xar0).zeroExtend 32) }) ∧
    resolve w 0xBC s = .ok (.mem c, { s with xar := s.xar.set s.st1.arp (c - (s.arOf .xar0).zeroExtend 32) }) ∧
    (∀ n : XReg, resolve w (0b10110#5 ++ n.bits) s = .ok (.mem c, { s with st1 := { s.st1 with arp := n } })) ∧
    resolve w 0xAE s = .ok (.mem c, { s with xar := s.xar.set s.st1.arp (highWord c ++ rev) }) ∧
    resolve w 0xAF s = .ok (.mem c, { s with xar := s.xar.set s.st1.arp (highWord c ++ ver) })

/-- R123, R126: the indirect modes of XARn: the address, the update by 1 or 2, and ARP set to n, under both values of
AMODE (AMODE = 1 is the model's reading, log 12); the index by a 3-bit constant and the circular mode, which R126 gives
for AMODE = 0. -/
def Obligations.NamedRegisterModes : Prop :=
  ∀ (s : State) (n : XReg),
    resolve .word (0b10000#5 ++ n.bits) s = .ok (.mem (s.xarOf n),
      { s with xar := s.xar.set n (s.xarOf n + 1), st1 := { s.st1 with arp := n } }) ∧
    resolve .long (0b10000#5 ++ n.bits) s = .ok (.mem (s.xarOf n),
      { s with xar := s.xar.set n (s.xarOf n + 2), st1 := { s.st1 with arp := n } }) ∧
    resolve .word (0b10001#5 ++ n.bits) s = .ok (.mem (s.xarOf n - 1),
      { s with xar := s.xar.set n (s.xarOf n - 1), st1 := { s.st1 with arp := n } }) ∧
    resolve .long (0b10001#5 ++ n.bits) s = .ok (.mem (s.xarOf n - 2),
      { s with xar := s.xar.set n (s.xarOf n - 2), st1 := { s.st1 with arp := n } }) ∧
    (∀ w, resolve w (0b10010#5 ++ n.bits) s = .ok (.mem (s.xarOf n + (s.arOf .xar0).zeroExtend 32),
      { s with st1 := { s.st1 with arp := n } })) ∧
    (∀ w, resolve w (0b10011#5 ++ n.bits) s = .ok (.mem (s.xarOf n + (s.arOf .xar1).zeroExtend 32),
      { s with st1 := { s.st1 with arp := n } })) ∧
    (s.st1.amode = false →
      (∀ w (off : BitVec 3), resolve w (0b11#2 ++ off ++ n.bits) s = .ok (.mem (s.xarOf n + off.zeroExtend 32),
        { s with st1 := { s.st1 with arp := n } })) ∧
      (∀ w, (s.arOf .xar6).extractLsb' 0 8 = (s.arOf .xar1).extractLsb' 0 8 →
        resolve w 0xBF s = .ok (.mem (s.xarOf .xar6),
          { s with xar := s.xar.set .xar6 (highWord (s.xarOf .xar6) ++ ((s.arOf .xar6).extractLsb' 8 8 ++ 0#8)),
                   st1 := { s.st1 with arp := .xar6 } })) ∧
      ((s.arOf .xar6).extractLsb' 0 8 ≠ (s.arOf .xar1).extractLsb' 0 8 →
        resolve .word 0xBF s = .ok (.mem (s.xarOf .xar6),
          { s with xar := s.xar.set .xar6 (highWord (s.xarOf .xar6) ++ (s.arOf .xar6 + 1)),
                   st1 := { s.st1 with arp := .xar6 } }) ∧
        resolve .long 0xBF s = .ok (.mem (s.xarOf .xar6),
          { s with xar := s.xar.set .xar6 (highWord (s.xarOf .xar6) ++ (s.arOf .xar6 + 2)),
                   st1 := { s.st1 with arp := .xar6 } })))

/-- R21, R22, R23, R26, R124, R126: the register modes: which register a field names in 16 and in 32 bits, what is
read, and that a 16-bit write leaves the other half of its 32-bit register. That the fields mean the same under AMODE
= 1 is the model's reading (log 12). -/
def Obligations.RegisterModes : Prop :=
  ∀ (s : State) (v : Word) (x : Long),
    (∀ n : XReg, ∀ w, resolve w (0b10100#5 ++ n.bits) s = .ok (.reg (.ar n), s)) ∧
    resolve .word 0xA8 s = .ok (.reg .ah, s) ∧ (∀ w, resolve w 0xA9 s = .ok (.reg .al, s)) ∧
    resolve .word 0xAA s = .ok (.reg .ph, s) ∧ (∀ w, resolve w 0xAB s = .ok (.reg .pl, s)) ∧
    (∀ w, resolve w 0xAC s = .ok (.reg .t, s)) ∧ resolve .word 0xAD s = .ok (.reg .sp, s) ∧
    (∀ n, readReg16 s (.ar n) = lowWord (s.xar.get n)) ∧ readReg16 s .ah = highWord s.acc ∧
    readReg16 s .al = lowWord s.acc ∧ readReg16 s .ph = highWord s.p ∧ readReg16 s .pl = lowWord s.p ∧
    readReg16 s .t = highWord s.xt ∧ readReg16 s .sp = s.sp ∧
    (∀ n, readReg32 s (.ar n) = s.xar.get n) ∧ readReg32 s .al = s.acc ∧ readReg32 s .pl = s.p ∧
    readReg32 s .t = s.xt ∧
    (∀ n, writeReg16 s (.ar n) v = { s with xar := s.xar.set n (highWord (s.xar.get n) ++ v) }) ∧
    writeReg16 s .ah v = { s with acc := v ++ lowWord s.acc } ∧
    writeReg16 s .al v = { s with acc := highWord s.acc ++ v } ∧
    writeReg16 s .ph v = { s with p := v ++ lowWord s.p } ∧
    writeReg16 s .pl v = { s with p := highWord s.p ++ v } ∧
    writeReg16 s .t v = { s with xt := v ++ lowWord s.xt } ∧ writeReg16 s .sp v = { s with sp := v } ∧
    (∀ n, writeReg32 s (.ar n) x = { s with xar := s.xar.set n x }) ∧ writeReg32 s .al x = { s with acc := x } ∧
    writeReg32 s .pl x = { s with p := x } ∧ writeReg32 s .t x = { s with xt := x } ∧
    (∀ n, (s.xar.set n x).get n = x) ∧ ∀ n m, m ≠ n → (s.xar.set n x).get m = s.xar.get m

/-- R104, R108, R109, R120, R127: with no hole and no protected register an access to data space is open exactly
outside the emulation registers 0x0800 to 0x09FF, where reads and writes are refused by name; a selected place can be
read wherever the access is open and in order: a word at its address, a long word from the aligned pair, a register as
it is. The operand's state is the one after the pointer update. That no address is missing or protected is the model's
choice (log 4, 19); the emulation registers are log 18. -/
def Obligations.OpenOperandsAreReadable : Prop :=
  ∀ (s t : State) (loc : Loc) (a : DataAddr) (r : LocReg),
    (Selects .word s loc (.mem a) t → t.dataAccess a.toNat = .ok () → t.unordered a.toNat false = false →
      Reads16 s loc (t.mem.word a.toNat) t) ∧
    (Selects .long s loc (.mem a) t → t.dataAccess (evenAddr a).toNat = .ok () →
      t.dataAccess (evenAddr a + 1).toNat = .ok () →
      t.unordered (evenAddr a).toNat false = false → t.unordered (evenAddr a + 1).toNat false = false →
      Reads32 s loc (longOf (t.mem.word (evenAddr a + 1).toNat) (t.mem.word (evenAddr a).toNat)) t) ∧
    (Selects .word s loc (.reg r) t → Reads16 s loc (readReg16 t r) t) ∧
    (Selects .long s loc (.reg r) t → Reads32 s loc (readReg32 t r) t) ∧
    (s.dataAccess a.toNat = .ok () ↔ ¬ (0x800 ≤ a.toNat ∧ a.toNat ≤ 0x9FF)) ∧
    (0x800 ≤ a.toNat → a.toNat ≤ 0x9FF →
      readData s a = .error (.emulationRegister a.toNat) ∧
      ∀ v, writeData s a v = .error (.emulationRegister a.toNat))

/-- R120: the frame of operand addressing: besides one auxiliary register, SP and ARP nothing changes, no byte of
memory among it; SP changes only in the push and pop modes. The pointer moves when the address is computed, the
model's choice (log 31). -/
def Obligations.OperandFrame : Prop :=
  ∀ (w : Width) (s t : State) (loc : Loc) (pl : Place), Selects w s loc pl t →
    t = { s with xar := t.xar, sp := t.sp, st1 := { s.st1 with arp := t.st1.arp } } ∧
    (∃ n, ∀ m, m ≠ n → t.xar.get m = s.xar.get m) ∧ (t.sp ≠ s.sp → (loc = 0xBD ∨ loc = 0xBE) ∧ t.xar = s.xar)

/-- R109, R110: a 32-bit write at either address of an aligned pair is read back whole at either address, its low word
alone at the even address and its high word above it; every byte outside the pair reads as before. -/
def Obligations.LongWriteReadBack : Prop :=
  ∀ (s t : State) (a b : DataAddr) (v : Long), s.Inv → writeData32 s a v = .ok t → evenAddr b = evenAddr a →
    readData32 t b = .ok v ∧ readData t (evenAddr a) = .ok (lowWord v) ∧
    readData t (evenAddr a + 1) = .ok (highWord v) ∧ (evenAddr a).toNat = a.toNat / 2 * 2 ∧
    ∀ k, k / 2 ≠ a.toNat / 2 * 2 → k / 2 ≠ a.toNat / 2 * 2 + 1 → t.mem.get k = s.mem.get k

/-- R101, R107, R596: in C28x mode a program address and the data address of the same number name one word: what a
program write stores, data space holds; what a program read answers is what data space holds there. A read of a word that
the previous instruction wrote through the other space is refused, in both directions, and the next but one reads it; a
write of a word that the previous instruction wrote or read through the other space is refused. The words an instruction
reads are marked: its operand in data space, and the program operand of PREAD. Which accesses count as unprotected is the
model's reading (log 21, 30). -/
def Obligations.SpacesShareStorage : Prop :=
  ∀ (s : State) (a : ProgAddr) (v : Word), s.st1.m0m1map = true →
    let d : DataAddr := a.zeroExtend 32
    let after (t : State) (k : Nat) : State := { t with icount := t.icount + k }
    (∀ t, writeProg s a v = .ok t → t.mem.word a.toNat = v ∧
      ∀ k, k / 2 ≠ a.toNat → t.mem.get k = s.mem.get k) ∧
    (readProg s a = .ok v → v = s.mem.word a.toNat) ∧
    (∀ t, writeProg s a v = .ok t → t.dataAccess a.toNat = .ok () →
      readData (after t 1) d = .error (.unorderedAccess a.toNat) ∧ readData (after t 2) d = .ok v ∧
      ∀ x, writeData (after t 1) d x = .error (.unorderedAccess a.toNat)) ∧
    (∀ t, writeData s d v = .ok t →
      readProg (after t 1) a = .error (.unorderedAccess a.toNat) ∧ readProg (after t 2) a = .ok v ∧
      ∀ x, writeProg (after t 1) a x = .error (.unorderedAccess a.toNat)) ∧
    (⟨a.toNat, true, s.icount⟩ ∈ s.reads → s.dataAccess a.toNat = .ok () →
      writeData (after s 1) d v = .error (.unorderedAccess a.toNat)) ∧
    (⟨a.toNat, false, s.icount⟩ ∈ s.reads → writeProg (after s 1) a v = .error (.unorderedAccess a.toNat)) ∧
    (∀ (i : Instr) (loc : Loc) (b : DataAddr) (t : State), storesOnly i = false →
      (locOperand i = some (.word, loc) → Selects .word s loc (.mem b) t →
        ⟨b.toNat, false, s.icount + 1⟩ ∈ s.readsWith i) ∧
      (locOperand i = some (.long, loc) → Selects .long s loc (.mem b) t →
        ⟨(evenAddr b).toNat, false, s.icount + 1⟩ ∈ s.readsWith i ∧
        ⟨(evenAddr b + 1).toNat, false, s.icount + 1⟩ ∈ s.readsWith i)) ∧
    ∀ loc : Loc, s.repeating = false → (s.xarOf .xar7).extractLsb' 0 22 = a →
      ⟨a.toNat, true, s.icount + 1⟩ ∈ s.readsWith (.pread loc)

/-- U14, U15 (R126, R150, R353, R371, R363, R124): the forms to which the spec gives no meaning: MOVAD and XMACD of a
register, a `loc` that uses XAR7 beside `*XAR7`, a 16-bit half where 32 bits are wanted, a test of NBIO, and under
AMODE = 1 the fields 11...... and 10111111. Log 12, 15, 16, 17. -/
def Obligations.UndescribedFormsRefused : Prop :=
  ∀ (s : State) (loc : Loc) (c : BitVec 16) (k : BitVec 8) (ax : AccHalf),
    (∀ r t, Selects .word s loc (.reg r) t →
      exec (.movad loc) s = .refused .noNextAddress ∧ exec (.xmacd loc c) s = .refused .noNextAddress) ∧
    (locTraps .word loc s = false → s.locUsesXar7 loc = true →
      exec (.macXar7 loc) s = .refused .operandUsesXar7 ∧ exec (.macXar7Inc loc) s = .refused .operandUsesXar7) ∧
    (locTraps .long loc s = false → s.locUsesXar7 loc = true →
      exec (.dmacXar7 loc) s = .refused .operandUsesXar7 ∧ exec (.dmacXar7Inc loc) s = .refused .operandUsesXar7 ∧
      exec (.imaclXar7 loc) s = .refused .operandUsesXar7 ∧ exec (.imaclXar7Inc loc) s = .refused .operandUsesXar7 ∧
      exec (.qmaclXar7 loc) s = .refused .operandUsesXar7 ∧ exec (.qmaclXar7Inc loc) s = .refused .operandUsesXar7) ∧
    (∀ i : Instr, locOperand i = some (.long, loc) → loc = 0xA8 ∨ loc = 0xAA →
      ¬ (s.st1.page0 = true ∧ s.st1.amode = true) → (∀ l, i ≠ .movlLoc32AccCond .nbio l) →
      exec i s = .refused .halfRegisterAsLong) ∧
    (∀ (i : Instr) (w : Width), locOperand i = some (w, loc) → loc.extractLsb' 6 2 = 3 ∨ loc = 0xBF →
      s.st1.page0 = false → s.st1.amode = true → (∀ h l, i ≠ .movLoc16AxCond h .nbio l) →
      (∀ x l, i ≠ .movbLoc16Cond .nbio x l) → (∀ l, i ≠ .movlLoc32AccCond .nbio l) →
      exec i s = .refused (.addressingMode loc)) ∧
    exec (.b .nbio c) s = .refused .nbioCondition ∧ exec (.bf .nbio c) s = .refused .nbioCondition ∧
    exec (.sb .nbio k) s = .refused .nbioCondition ∧ exec (.xb .nbio c) s = .refused .nbioCondition ∧
    exec (.xcall .nbio c) s = .refused .nbioCondition ∧ exec (.xretc .nbio) s = .refused .nbioCondition ∧
    (locTraps .word loc s = false → exec (.movLoc16AxCond ax .nbio loc) s = .refused .nbioCondition ∧
      exec (.movbLoc16Cond .nbio k loc) s = .refused .nbioCondition) ∧
    (locTraps .long loc s = false → exec (.movlLoc32AccCond .nbio loc) s = .refused .nbioCondition)

/-! ## The ALU procedures -/

/-- R75, R76, R30, R33, R38: `AddAcc` and `SubAcc`. With x the exact signed sum or difference: while OVM = 0 the result
and the step of OVC together are x; while OVM = 1 the result is x clamped to 32 bits and OVC stays. C is the carry of
the unsigned sum, or 0 on borrow else 1; V is set by an overflow and never cleared; N and Z are of the final result;
the other fields of ST0 stay. -/
def Obligations.AccAddSubExact : Prop :=
  (∀ (f : St0) (a b : Long) (cin : Bool),
    let r := addAcc f a b cin
    let x : Int := a.toInt + b.toInt + cin.toNat
    let d : Int := if 2147483647 < x then 1 else if x < -2147483648 then -1 else 0
    r.2.c = decide (2 ^ 32 ≤ a.toNat + b.toNat + cin.toNat) ∧
    (f.ovm = false → r.1.toInt + 2 ^ 32 * d = x ∧ r.2.ovc = f.ovc + BitVec.ofInt 6 d) ∧
    (f.ovm = true → r.1.toInt = max (-2147483648) (min x 2147483647) ∧ r.2.ovc = f.ovc) ∧
    r.2.v = (f.v || decide (d ≠ 0)) ∧ r.2.n = decide (r.1.toInt < 0) ∧ r.2.z = decide (r.1.toNat = 0) ∧
    r.2.pm = f.pm ∧ r.2.tc = f.tc ∧ r.2.ovm = f.ovm ∧ r.2.sxm = f.sxm) ∧
  ∀ (f : St0) (a b : Long) (bin : Bool),
    let r := subAcc f a b bin
    let x : Int := a.toInt - b.toInt - bin.toNat
    let d : Int := if 2147483647 < x then 1 else if x < -2147483648 then -1 else 0
    r.2.c = decide (b.toNat + bin.toNat ≤ a.toNat) ∧
    (f.ovm = false → r.1.toInt + 2 ^ 32 * d = x ∧ r.2.ovc = f.ovc + BitVec.ofInt 6 d) ∧
    (f.ovm = true → r.1.toInt = max (-2147483648) (min x 2147483647) ∧ r.2.ovc = f.ovc) ∧
    r.2.v = (f.v || decide (d ≠ 0)) ∧ r.2.n = decide (r.1.toInt < 0) ∧ r.2.z = decide (r.1.toNat = 0) ∧
    r.2.pm = f.pm ∧ r.2.tc = f.tc ∧ r.2.ovm = f.ovm ∧ r.2.sxm = f.sxm

/-- R77, R78, R31 (C4): `AddU32` and `SubU32`: the result wraps whatever OVM is, C and the step of OVC are the unsigned
carry or borrow, V is set by signed overflow. `Add16` and `Sub16`: 16-bit results that wrap, without effect of OVM or on
OVC; the memory forms of R273, R278 and R279 change OVC no more than the others do. -/
def Obligations.UnsignedAndWordAddSub : Prop :=
  (∀ (f : St0) (a b : Long),
    let p := addU32 f a b
    let m := subU32 f a b
    p.1.toNat + 2 ^ 32 * p.2.c.toNat = a.toNat + b.toNat ∧
    p.2.ovc = f.ovc + BitVec.ofNat 6 p.2.c.toNat ∧
    p.2.v = (f.v || decide (a.toInt + b.toInt < -2147483648 ∨ 2147483647 < a.toInt + b.toInt)) ∧
    p.2.n = decide (p.1.toInt < 0) ∧ p.2.z = decide (p.1.toNat = 0) ∧
    p.2.pm = f.pm ∧ p.2.tc = f.tc ∧ p.2.ovm = f.ovm ∧ p.2.sxm = f.sxm ∧
    m.1.toNat + b.toNat = a.toNat + 2 ^ 32 * (!m.2.c).toNat ∧
    m.2.ovc = f.ovc - BitVec.ofNat 6 (!m.2.c).toNat ∧
    m.2.v = (f.v || decide (a.toInt - b.toInt < -2147483648 ∨ 2147483647 < a.toInt - b.toInt)) ∧
    m.2.n = decide (m.1.toInt < 0) ∧ m.2.z = decide (m.1.toNat = 0) ∧
    m.2.pm = f.pm ∧ m.2.tc = f.tc ∧ m.2.ovm = f.ovm ∧ m.2.sxm = f.sxm) ∧
  ∀ (f : St0) (a b : Word),
    let p := add16 f a b
    let m := sub16 f a b
    p.1.toNat + 2 ^ 16 * p.2.c.toNat = a.toNat + b.toNat ∧
    p.2.v = (f.v || decide (a.toInt + b.toInt < -32768 ∨ 32767 < a.toInt + b.toInt)) ∧
    p.2.n = decide (p.1.toInt < 0) ∧ p.2.z = decide (p.1.toNat = 0) ∧
    p.2.ovc = f.ovc ∧ p.2.pm = f.pm ∧ p.2.tc = f.tc ∧ p.2.ovm = f.ovm ∧ p.2.sxm = f.sxm ∧
    m.1.toNat + b.toNat = a.toNat + 2 ^ 16 * (!m.2.c).toNat ∧
    m.2.v = (f.v || decide (a.toInt - b.toInt < -32768 ∨ 32767 < a.toInt - b.toInt)) ∧
    m.2.n = decide (m.1.toInt < 0) ∧ m.2.z = decide (m.1.toNat = 0) ∧
    m.2.ovc = f.ovc ∧ m.2.pm = f.pm ∧ m.2.tc = f.tc ∧ m.2.ovm = f.ovm ∧ m.2.sxm = f.sxm ∧
    add16Mem f a b = p ∧ sub16Mem f a b = m

/-- R79: the flags of a compare of a with b in 16 and 32 bits, N in infinite precision, everything else in ST0 as
before. -/
def Obligations.CompareFlags : Prop :=
  ∀ (w : Nat) (f : St0) (a b : BitVec w), w = 16 ∨ w = 32 →
    (cmpFlags f a b).c = decide (b.toNat ≤ a.toNat) ∧ (cmpFlags f a b).z = decide (a.toInt = b.toInt) ∧
    (cmpFlags f a b).n = decide (a.toInt - b.toInt < 0) ∧
    cmpFlags f a b = { f with c := (cmpFlags f a b).c, z := (cmpFlags f a b).z, n := (cmpFlags f a b).n }

/-- R80, R82: the product shift: PM = 000 doubles modulo 2^32, PM = 001 copies, PM = 101 with AMODE = 1 multiplies by 16
modulo 2^32, and every other mode divides the signed value by 2^(PM - 1), rounding down; and a 16-bit operand entering
ACC, sign-extended where SXM = 1 and zero-extended where SXM = 0. -/
def Obligations.ProductShiftAndExtension : Prop :=
  (∀ (pm : BitVec 3) (am : Bool) (p : Long),
    (pm = 0 → pshift pm am p = BitVec.ofInt 32 (2 * p.toInt)) ∧ (pm = 1 → pshift pm am p = p) ∧
    (pm = 5 → am = true → pshift pm am p = BitVec.ofInt 32 (16 * p.toInt)) ∧
    (2 ≤ pm.toNat → ¬ (pm = 5 ∧ am = true) → (pshift pm am p).toInt = p.toInt / 2 ^ (pm.toNat - 1))) ∧
  ∀ (f : St0) (v : Word),
    (f.sxm = true → (ext16 f v).toInt = v.toInt) ∧ (f.sxm = false → (ext16 f v).toNat = v.toNat)

/-- R79, R150: the tests of the condition codes on any ST0: NBIO is no condition the model answers, and only NOV and OV
change a flag, clearing V. After a compare of a with b, in 16 and in 32 bits, the signed conditions hold exactly as the
numbers compare signed, and the unsigned conditions as they compare unsigned; V, OVC and the rest of ST0 stay. -/
def Obligations.ConditionsAfterCompare : Prop :=
  (∀ f : St0,
    (condHolds f .neq ↔ f.z = false) ∧ (condHolds f .eq ↔ f.z = true) ∧
    (condHolds f .gt ↔ f.z = false ∧ f.n = false) ∧ (condHolds f .geq ↔ f.n = false) ∧
    (condHolds f .lt ↔ f.n = true) ∧ (condHolds f .leq ↔ f.z = true ∨ f.n = true) ∧
    (condHolds f .hi ↔ f.c = true ∧ f.z = false) ∧ (condHolds f .his ↔ f.c = true) ∧
    (condHolds f .lo ↔ f.c = false) ∧ (condHolds f .los ↔ f.c = false ∨ f.z = true) ∧
    (condHolds f .nov ↔ f.v = false) ∧ (condHolds f .ov ↔ f.v = true) ∧
    (condHolds f .ntc ↔ f.tc = false) ∧ (condHolds f .tc ↔ f.tc = true) ∧ condHolds f .unc ∧
    condKnown .nbio = .error .nbioCondition ∧ (∀ c, c ≠ .nbio → condKnown c = .ok ()) ∧
    condFlags f .nov = { f with v := false } ∧ condFlags f .ov = { f with v := false } ∧
    ∀ c, c ≠ .nov → c ≠ .ov → condFlags f c = f) ∧
  ∀ (w : Nat) (f : St0) (a b : BitVec w), w = 16 ∨ w = 32 →
    let g := cmpFlags f a b
    (condHolds g .eq ↔ a = b) ∧ (condHolds g .neq ↔ a ≠ b) ∧
    (condHolds g .lt ↔ a.toInt < b.toInt) ∧ (condHolds g .leq ↔ a.toInt ≤ b.toInt) ∧
    (condHolds g .gt ↔ b.toInt < a.toInt) ∧ (condHolds g .geq ↔ b.toInt ≤ a.toInt) ∧
    (condHolds g .lo ↔ a.toNat < b.toNat) ∧ (condHolds g .los ↔ a.toNat ≤ b.toNat) ∧
    (condHolds g .hi ↔ b.toNat < a.toNat) ∧ (condHolds g .his ↔ b.toNat ≤ a.toNat) ∧
    g.v = f.v ∧ g.ovc = f.ovc ∧ g.pm = f.pm ∧ g.tc = f.tc ∧ g.ovm = f.ovm ∧ g.sxm = f.sxm

/-- R310 to R331: shifts and rotates as arithmetic: a left shift by k multiplies by 2^k modulo 2^w, a right shift
divides, rounding down, the unsigned or the signed value; C is the last bit shifted out, cleared by a count of 0; ROR
undoes ROL; N and Z are of the result and V, OVC, PM, TC, OVM and SXM stay. -/
def Obligations.ShiftsAreScaling : Prop :=
  (∀ (w : Nat) (f : St0) (x : BitVec w) (k : Nat), 0 < w → k ≤ w →
    (lsl f x k).1.toNat = x.toNat * 2 ^ k % 2 ^ w ∧ (lsr f x k).1.toNat = x.toNat / 2 ^ k ∧
    (asr f x k).1.toInt = x.toInt / 2 ^ k ∧
    (lsl f x k).2.c = (decide (0 < k) && decide (x.toNat / 2 ^ (w - k) % 2 = 1)) ∧
    (lsr f x k).2.c = (decide (0 < k) && decide (x.toNat / 2 ^ (k - 1) % 2 = 1)) ∧
    (asr f x k).2.c = (lsr f x k).2.c ∧
    ∀ r ∈ [lsl f x k, lsr f x k, asr f x k],
      r.2.n = decide (r.1.toInt < 0) ∧ r.2.z = decide (r.1.toNat = 0) ∧
      r.2 = { f with c := r.2.c, n := r.2.n, z := r.2.z }) ∧
  ∀ (f : St0) (x : Long),
    (rol f x).1.toNat = (2 * x.toNat + f.c.toNat) % 2 ^ 32 ∧ (rol f x).2.c = x.msb ∧
    (ror f x).1.toNat = x.toNat / 2 + 2 ^ 31 * f.c.toNat ∧ (ror f x).2.c = decide (x.toNat % 2 = 1) ∧
    (ror (rol f x).2 (rol f x).1).1 = x ∧ (ror (rol f x).2 (rol f x).1).2.c = f.c ∧
    ∀ r ∈ [rol f x, ror f x], r.2.n = decide (r.1.toInt < 0) ∧ r.2.z = decide (r.1.toNat = 0) ∧
      r.2 = { f with c := r.2.c, n := r.2.n, z := r.2.z }

/-- R351: the products as exact arithmetic: a 16 x 16 product is exact, and the high half of a 32 x 32 product with the
low half gives the exact product; the low half that the I group loads into P is scaled as PM says: doubled, copied,
times 16 (PM = 101, AMODE = 1), or divided by 2^(PM - 1), rounding down, modulo 2^32. -/
def Obligations.ProductsExact : Prop :=
  (∀ a b : Word, (mul16s a b).toInt = a.toInt * b.toInt) ∧
  (∀ a b : Long, (mulHi a b).toInt * 2 ^ 32 + (iprod 1 false (mul32s a b)).toNat = a.toInt * b.toInt ∧
    (mul32s a b).toInt = a.toInt * b.toInt ∧ (mul32su a b).toInt = a.toInt * (b.toNat : Int)) ∧
  ∀ (pm : BitVec 3) (am : Bool) (x : Quad),
    (pm = 0 → iprod pm am x = BitVec.ofInt 32 (2 * x.toInt)) ∧ (pm = 1 → iprod pm am x = BitVec.ofInt 32 x.toInt) ∧
    (pm = 5 → am = true → iprod pm am x = BitVec.ofInt 32 (16 * x.toInt)) ∧
    (2 ≤ pm.toNat → ¬ (pm = 5 ∧ am = true) → iprod pm am x = BitVec.ofInt 32 (x.toInt / 2 ^ (pm.toNat - 1)))

/-- R242, R243, R244, R246, R247, R248, R285: negation, absolute value and saturation as signed arithmetic, with the
one value that has no negative, and V, C, N and Z. -/
def Obligations.NegateAbsoluteSaturate : Prop :=
  (∀ (w : Nat) (f : St0) (x : BitVec w), w = 32 ∨ w = 64 →
    (x ≠ BitVec.intMin w → (negOp f x).1.toInt = -x.toInt ∧ (negOp f x).2.v = f.v) ∧
    (x = BitVec.intMin w → (negOp f x).2.v = true ∧
      (negOp f x).1 = if f.ovm then BitVec.intMax w else BitVec.intMin w) ∧
    (negOp f x).2.c = decide ((negOp f x).1.toNat = 0) ∧
    (0 < f.ovc.toInt → (satOp f x).1 = BitVec.intMax w ∧ (satOp f x).2.v = true) ∧
    (f.ovc.toInt < 0 → (satOp f x).1 = BitVec.intMin w ∧ (satOp f x).2.v = true) ∧
    (f.ovc.toInt = 0 → (satOp f x).1 = x ∧ (satOp f x).2.v = false) ∧
    (satOp f x).2.ovc = 0 ∧ (satOp f x).2.c = false ∧
    ∀ r ∈ [negOp f x, satOp f x], r.2.n = decide (r.1.toInt < 0) ∧ r.2.z = decide (r.1.toNat = 0) ∧
      r.2 = { f with c := r.2.c, n := r.2.n, z := r.2.z, v := r.2.v, ovc := r.2.ovc }) ∧
  (∀ (f : St0) (x : Long),
    (x ≠ 0x80000000 → (absOp f x).1.toInt = |x.toInt| ∧ (absOp f x).2.v = f.v) ∧
    (x = 0x80000000 → (absOp f x).2.v = true ∧ (absOp f x).1 = if f.ovm then 0x7FFFFFFF else 0x80000000) ∧
    (absOp f x).2.c = false ∧
    (absOp f x).2.n = decide ((absOp f x).1.toInt < 0) ∧ (absOp f x).2.z = decide ((absOp f x).1.toNat = 0) ∧
    (absOp f x).2 = { f with v := (absOp f x).2.v, c := false, n := (absOp f x).2.n, z := (absOp f x).2.z } ∧
    (abstcOp f x).1 = (absOp f x).1 ∧ (abstcOp f x).2 = { (absOp f x).2 with tc := f.tc ^^ decide (x.toInt < 0) }) ∧
  ∀ (f : St0) (x : Word),
    (neg16 f x).1 = BitVec.ofInt 16 (-x.toInt) ∧ (neg16 f x).2.v = (f.v || decide (x.toInt = -32768)) ∧
    (neg16 f x).2.c = decide (x.toNat = 0) ∧ (neg16 f x).2.n = decide ((neg16 f x).1.toInt < 0) ∧
    (neg16 f x).2.z = decide ((neg16 f x).1.toNat = 0) ∧
    (neg16 f x).2 = { f with v := (neg16 f x).2.v, c := (neg16 f x).2.c, n := (neg16 f x).2.n, z := (neg16 f x).2.z }

/-- R251, R252, R255, R253, their corner cases: sixteen SUBCU steps from AH = 0 leave the quotient in AL and the
remainder in AH, with a divisor of 0 AL = 0xFFFF; thirty-two SUBCUL steps from ACC = 0 leave the quotient in P and the
remainder in ACC. The count CSB puts in T is the left shift that normalises ACC: shifting it out and back
arithmetically gives ACC again, and after it bits 31 and 30 differ unless all bits of ACC are equal, when the count is
31. -/
def Obligations.StepwiseDivisionAndSignCount : Prop :=
  (∀ (f : St0) (n d : Word), d ≠ 0 →
    ((fun r : Long × St0 => subcuOp r.2 r.1 d)^[16] (n.zeroExtend 32, f)).1 = longOf (n % d) (n / d)) ∧
  (∀ (f : St0) (n : Word),
    lowWord ((fun r : Long × St0 => subcuOp r.2 r.1 0)^[16] (n.zeroExtend 32, f)).1 = 0xFFFF) ∧
  (∀ (f : St0) (n d : Long), d ≠ 0 →
    let r := (fun r : Long × Long × St0 => subculOp r.2.2 r.1 r.2.1 d)^[32] (0, n, f)
    r.1 = n % d ∧ r.2.1 = n / d) ∧
  ∀ x : Long, signBits x ≤ 31 ∧ (x <<< signBits x).sshiftRight (signBits x) = x ∧
    (signBits x < 31 → (x <<< signBits x).getLsbD 31 ≠ (x <<< signBits x).getLsbD 30) ∧
    (signBits x = 31 ↔ x = 0 ∨ x = 0xFFFFFFFF)

/-! ## What each instruction does

Each statement gives the next state whole: a record update of the state after the operand's pointer update, so what it
does not name is unchanged (the frame), memory among it unless a store is named. -/

/-- R66, R171 to R183, R186, R402, R407 to R410, R454, R457, R461 to R464: the status-bit and mode instructions, the
instructions without operand in memory that write a register, the acknowledge event, and the emulation instructions
with no emulator attached. The flush of OBJMODE, the repeat fields, the waiting state and the events are the model's
(log 20, 22, 24, 27). MOVB AR0 is carried by MOVB XARn for every n and writes all of XARn (log 9), and SETC and CLRC
with a mask of 0 write nothing (log 40): the model's choices. -/
def Obligations.ModeAndRegisterResults : Prop :=
  ∀ (s : State) (n : XReg) (k : BitVec 8) (c : BitVec 16),
    (∀ c : BitVec 8, exec (.setcMode c) s = .next { s with
      st0 := { s.st0 with sxm := s.st0.sxm || c.getLsbD 0, ovm := s.st0.ovm || c.getLsbD 1,
                          tc := s.st0.tc || c.getLsbD 2, c := s.st0.c || c.getLsbD 3 }
      st1 := { s.st1 with intm := s.st1.intm || c.getLsbD 4, dbgm := s.st1.dbgm || c.getLsbD 5,
                          page0 := s.st1.page0 || c.getLsbD 6, vmap := s.st1.vmap || c.getLsbD 7 }
      pc := s.pc + 1 }) ∧
    (∀ c : BitVec 8, exec (.clrcMode c) s = .next { s with
      st0 := { s.st0 with sxm := s.st0.sxm && !c.getLsbD 0, ovm := s.st0.ovm && !c.getLsbD 1,
                          tc := s.st0.tc && !c.getLsbD 2, c := s.st0.c && !c.getLsbD 3 }
      st1 := { s.st1 with intm := s.st1.intm && !c.getLsbD 4, dbgm := s.st1.dbgm && !c.getLsbD 5,
                          page0 := s.st1.page0 && !c.getLsbD 6, vmap := s.st1.vmap && !c.getLsbD 7 }
      pc := s.pc + 1 }) ∧
    exec .setcXf s = .next { s with st1 := { s.st1 with xf := true }, pc := s.pc + 1 } ∧
    exec .clrcXf s = .next { s with st1 := { s.st1 with xf := false }, pc := s.pc + 1 } ∧
    exec .setcObjmode s = .next { s with st1 := { s.st1 with objmode := true }, stores := [], reads := [],
                                         pc := s.pc + 1 } ∧
    exec .clrcObjmode s = .next { s with st1 := { s.st1 with objmode := false }, stores := [], reads := [],
                                         pc := s.pc + 1 } ∧
    exec .setcAmode s = .next { s with st1 := { s.st1 with amode := true }, pc := s.pc + 1 } ∧
    exec .clrcAmode s = .next { s with st1 := { s.st1 with amode := false }, pc := s.pc + 1 } ∧
    exec .eallow s = .next { s with st1 := { s.st1 with eallow := true }, pc := s.pc + 1 } ∧
    exec .edis s = .next { s with st1 := { s.st1 with eallow := false }, pc := s.pc + 1 } ∧
    (s.sp.toNat % 2 = 1 →
      exec .asp s = .next { s with sp := s.sp + 1, st1 := { s.st1 with spa := true }, pc := s.pc + 1 }) ∧
    (s.sp.toNat % 2 = 0 → exec .asp s = .next { s with st1 := { s.st1 with spa := false }, pc := s.pc + 1 }) ∧
    (s.st1.spa = true →
      exec .nasp s = .next { s with sp := s.sp - 1, st1 := { s.st1 with spa := false }, pc := s.pc + 1 }) ∧
    (s.st1.spa = false → exec .nasp s = .next { s with pc := s.pc + 1 }) ∧
    exec .zapOvc s = .next { s with st0 := { s.st0 with ovc := 0 }, pc := s.pc + 1 } ∧
    (∀ pm, exec (.spm pm) s = .next { s with st0 := { s.st0 with pm := pm }, pc := s.pc + 1 }) ∧
    exec (.movbAr n k) s = .next { s with xar := s.xar.set n (k.zeroExtend 32), pc := s.pc + 1 } ∧
    exec (.orIer c) s = .next { s with ier := s.ier ||| c, pc := s.pc + 2 } ∧
    exec (.andIer c) s = .next { s with ier := s.ier &&& c, pc := s.pc + 2 } ∧
    exec (.orIfr c) s = .next { s with ifr := s.ifr ||| c, pc := s.pc + 2 } ∧
    exec (.andIfr c) s = .next { s with ifr := s.ifr &&& c, pc := s.pc + 2 } ∧
    exec (.rptImm k) s = .next { s with rptc := k.zeroExtend 16, repeating := true, rptAddr := none, pc := s.pc + 1 } ∧
    exec .idle s = .next { s with st1 := { s.st1 with idlestat := true }, pc := s.pc + 1 } ∧
    exec .aborti s = .next { s with st1 := { s.st1 with dbgm := true }, pc := s.pc + 1 } ∧
    exec (.iack c) s = .next { s with acks := s.acks ++ [c], pc := s.pc + 2 } ∧
    exec .estop0 s = .next { s with pc := s.pc + 1 } ∧ exec .estop1 s = .next { s with pc := s.pc + 1 }

/-- R211, R213, R216, R219, R222, R224, R227, R231: additions to and subtractions from ACC of a word operand, extended
by SXM where the form says so, else zero-extended; with shift 16 a carry can only set C and a borrow only clear it. A
shift field of 0 in the two-word forms shifts by 0, the model's choice (log 8). -/
def Obligations.AccAddSubWordResults : Prop :=
  ∀ (s t : State) (loc : Loc) (v : Word) (sh : BitVec 4), Reads16 s loc v t →
    let x : Long := if t.st0.sxm then v.signExtend 32 else v.zeroExtend 32
    let k := t.xt.toNat / 65536 % 16
    let up := addAcc t.st0 t.acc (x <<< 16) false
    let down := subAcc t.st0 t.acc (x <<< 16) false
    exec (.addAccLoc16 loc) s = accNext t 1 (addAcc t.st0 t.acc x false) ∧
    exec (.addAccLoc16Shl sh loc) s = accNext t 2 (addAcc t.st0 t.acc (x <<< sh.toNat) false) ∧
    exec (.addAccLoc16Shl16 loc) s = accNext t 1 (up.1, { up.2 with c := t.st0.c || up.2.c }) ∧
    exec (.addAccLoc16ShlT loc) s = accNext t 2 (addAcc t.st0 t.acc (x <<< k) false) ∧
    exec (.addcuAcc loc) s = accNext t 1 (addAcc t.st0 t.acc (v.zeroExtend 32) t.st0.c) ∧
    exec (.adduAcc loc) s = accNext t 1 (addAcc t.st0 t.acc (v.zeroExtend 32) false) ∧
    exec (.subAccLoc16 loc) s = accNext t 1 (subAcc t.st0 t.acc x false) ∧
    exec (.subAccLoc16Shl sh loc) s = accNext t 2 (subAcc t.st0 t.acc (x <<< sh.toNat) false) ∧
    exec (.subAccLoc16Shl16 loc) s = accNext t 1 (down.1, { down.2 with c := t.st0.c && down.2.c }) ∧
    exec (.subAccLoc16ShlT loc) s = accNext t 2 (subAcc t.st0 t.acc (x <<< k) false) ∧
    exec (.sbbuAcc loc) s = accNext t 1 (subAcc t.st0 t.acc (v.zeroExtend 32) (!t.st0.c)) ∧
    exec (.subuAcc loc) s = accNext t 1 (subAcc t.st0 t.acc (v.zeroExtend 32) false)

/-- R215, R217, R220, R221, R226, R228, R232, R233, R234, R240, R241, R252: the operations of ACC or P with a long
operand; MAXL and MINL with V in the sense of the table (log 29); one SUBCUL step. -/
def Obligations.AccLongResults : Prop :=
  ∀ (s t : State) (loc : Loc) (v : Long), Reads32 s loc v t →
    let g := cmpFlags t.st0 t.acc v
    let d : Int := 2 * t.acc.toNat + t.p.msb.toNat - v.toNat
    exec (.addclAcc loc) s = accNext t 2 (addAcc t.st0 t.acc v t.st0.c) ∧
    exec (.addlAcc loc) s = accNext t 1 (addAcc t.st0 t.acc v false) ∧
    exec (.addulAcc loc) s = accNext t 2 (addU32 t.st0 t.acc v) ∧
    exec (.addulP loc) s = pNext t 2 (addU32 t.st0 t.p v) ∧
    exec (.subblAcc loc) s = accNext t 2 (subAcc t.st0 t.acc v (!t.st0.c)) ∧
    exec (.sublAcc loc) s = accNext t 1 (subAcc t.st0 t.acc v false) ∧
    exec (.subulAcc loc) s = accNext t 2 (subU32 t.st0 t.acc v) ∧
    exec (.subulP loc) s = pNext t 2 (subU32 t.st0 t.p v) ∧
    exec (.cmplAcc loc) s = st0Next t 1 g ∧
    exec (.maxlAcc loc) s = accNext t 2 (if t.acc.toInt < v.toInt then v else t.acc,
      { g with v := t.st0.v || decide (v.toInt < t.acc.toInt) }) ∧
    exec (.minlAcc loc) s = accNext t 2 (if v.toInt < t.acc.toInt then v else t.acc,
      { g with v := t.st0.v || decide (t.acc.toInt < v.toInt) }) ∧
    (0 ≤ d → exec (.subcul loc) s = .next { t with
      acc := BitVec.ofInt 32 d, p := t.p <<< 1 + 1, pc := t.pc + 2
      st0 := { t.st0 with c := true, n := (BitVec.ofInt 32 d).msb, z := BitVec.ofInt 32 d == 0 } }) ∧
    (d < 0 → exec (.subcul loc) s = .next { t with
      acc := t.acc <<< 1 + t.p >>> 31, p := t.p <<< 1, pc := t.pc + 2
      st0 := { t.st0 with c := false, n := (t.acc <<< 1 + t.p >>> 31).msb, z := t.acc <<< 1 + t.p >>> 31 == 0 } })

/-- R218, R229, R230: ADDL, SUBL and SUBRL with a `loc32` destination: read, and written back with the flags of the
32-bit result. -/
def Obligations.LongDestinationResults : Prop :=
  ∀ (s t : State) (loc : Loc) (pl : Place) (v : Long), Selects .long s loc pl t → readPlace32 t pl = .ok v →
    Place.Open32 t pl → ∀ (i : Instr) (r : Long × St0),
      (i = .addlLoc32Acc loc ∧ r = addAcc s.st0 v s.acc false) ∨
      (i = .sublLoc32Acc loc ∧ r = subAcc s.st0 v s.acc false) ∨
      (i = .subrlLoc32Acc loc ∧ r = subAcc s.st0 s.acc v false) →
      ∃ u, Stored32 { t with st0 := r.2 } pl r.1 u ∧ exec i s = .next { u with pc := u.pc + 2 }

/-- R212, R214, R223, R225, R392, R236 to R239: constants and the shifted P as the second operand; the three spellings
that are `loc` encodings need a mode in which a `loc` field does not trap. -/
def Obligations.AccConstantAndProductResults : Prop :=
  ∀ (s : State) (sh : BitVec 4) (c : BitVec 16) (k : BitVec 8),
    let x : Long := (if s.st0.sxm then c.signExtend 32 else c.zeroExtend 32) <<< sh.toNat
    let q := pshift s.st0.pm s.st1.amode s.p
    exec (.addAccImmShl sh c) s = accNext s 2 (addAcc s.st0 s.acc x false) ∧
    exec (.subAccImmShl sh c) s = accNext s 2 (subAcc s.st0 s.acc x false) ∧
    exec (.movAccImmShl sh c) s = accNext s 2 (x, { s.st0 with n := x.msb, z := x == 0 }) ∧
    exec (.addbAcc k) s = accNext s 1 (addAcc s.st0 s.acc (k.zeroExtend 32) false) ∧
    exec (.subbAcc k) s = accNext s 1 (subAcc s.st0 s.acc (k.zeroExtend 32) false) ∧
    exec .cmplAccP s = st0Next s 1 (cmpFlags s.st0 s.acc q) ∧
    (¬ (s.st1.page0 = true ∧ s.st1.amode = true) →
      exec .addAccP s = accNext s 1 (addAcc s.st0 s.acc q false) ∧
      exec .subAccP s = accNext s 1 (subAcc s.st0 s.acc q false) ∧
      exec .movAccP s = accNext s 1 (q, { s.st0 with n := q.msb, z := q == 0 }))

/-- R37, R242 to R250, R253 to R255: the operations on ACC or ACC:P alone. NORM: TC is set where ACC is 0 or bits 31 and
30 differ, and nothing moves; else ACC is shifted left by 1 and the pointer is updated: XARn by 1, XAR(ARP) by 0, 1 or
AR0 (log 32). -/
def Obligations.AccUnaryAndNormResults : Prop :=
  ∀ (s : State) (n : XReg),
    let a := s.acc <<< 1
    let c := s.st1.arp
    let stay : Host.Outcome State Fault Refusal :=
      st0Next s 1 { s.st0 with tc := true, n := s.acc.msb, z := s.acc == 0 }
    let move (x : XarFile) : Host.Outcome State Fault Refusal :=
      .next { s with acc := a, xar := x, pc := s.pc + 1,
                     st0 := { s.st0 with tc := false, n := a.msb, z := a == 0 } }
    let nz : St0 := { s.st0 with n := s.acc.msb, z := s.acc == 0 }
    exec .absAcc s = accNext s 1 (absOp s.st0 s.acc) ∧ exec .abstcAcc s = accNext s 1 (abstcOp s.st0 s.acc) ∧
    exec .negAcc s = accNext s 1 (negOp s.st0 s.acc) ∧
    (s.st0.tc = true → exec .negtcAcc s = accNext s 1 (negOp s.st0 s.acc)) ∧
    (s.st0.tc = false → exec .negtcAcc s = st0Next s 1 nz) ∧
    exec .neg64AccP s = accPNext s 1 (negOp s.st0 (s.acc ++ s.p)) ∧
    exec .satAcc s = accNext s 1 (satOp s.st0 s.acc) ∧
    exec .sat64AccP s = accPNext s 1 (satOp s.st0 (s.acc ++ s.p)) ∧ exec .testAcc s = st0Next s 1 nz ∧
    exec .zapa s = .next { s with acc := 0, p := 0, pc := s.pc + 1,
                                  st0 := { s.st0 with ovc := 0, z := true, n := false } } ∧
    exec .csb s = .next { s with xt := longOf (BitVec.ofNat 16 (signBits s.acc)) (lowWord s.xt), pc := s.pc + 1,
                                 st0 := { nz with tc := s.acc.msb } } ∧
    (s.acc = 0 ∨ s.acc.getLsbD 31 ≠ s.acc.getLsbD 30 →
      exec (.normXarInc n) s = stay ∧ exec (.normXarDec n) s = stay ∧ exec .normInd s = stay ∧
      exec .normIndInc s = stay ∧ exec .normIndDec s = stay ∧ exec .normInd0Inc s = stay ∧
      exec .normInd0Dec s = stay) ∧
    (s.acc ≠ 0 → s.acc.getLsbD 31 = s.acc.getLsbD 30 →
      exec (.normXarInc n) s = move (s.xar.set n (s.xar.get n + 1)) ∧
      exec (.normXarDec n) s = move (s.xar.set n (s.xar.get n - 1)) ∧ exec .normInd s = move s.xar ∧
      exec .normIndInc s = move (s.xar.set c (s.xar.get c + 1)) ∧
      exec .normIndDec s = move (s.xar.set c (s.xar.get c - 1)) ∧
      exec .normInd0Inc s = move (s.xar.set c (s.xar.get c + (lowWord (s.xar.get .xar0)).zeroExtend 32)) ∧
      exec .normInd0Dec s = move (s.xar.set c (s.xar.get c - (lowWord (s.xar.get .xar0)).zeroExtend 32)))

/-- R251, R271, R275, R280, R281, R283, R284: AH or AL with a word operand, CMP of the operand with a constant, one
SUBCU step; MAX and MIN with V in the sense of the table (log 29). -/
def Obligations.WordOperandResults : Prop :=
  ∀ (s t : State) (loc : Loc) (v : Word) (ax : AccHalf) (c : BitVec 16), Reads16 s loc v t →
    let a := t.ax ax
    let g := cmpFlags t.st0 a v
    let d : Int := 2 * t.acc.toNat - v.toNat * 2 ^ 16
    exec (.addAxLoc16 ax loc) s = axNext t 1 ax (add16 t.st0 a v) ∧
    exec (.subAxLoc16 ax loc) s = axNext t 1 ax (sub16 t.st0 a v) ∧
    exec (.cmpAxLoc16 ax loc) s = st0Next t 1 g ∧
    exec (.cmpLoc16Imm loc c) s = st0Next t 2 (cmpFlags t.st0 v c) ∧
    exec (.maxAx ax loc) s = axNext t 2 ax (if a.toInt < v.toInt then v else a,
      { g with v := t.st0.v || decide (v.toInt < a.toInt) }) ∧
    exec (.minAx ax loc) s = axNext t 2 ax (if v.toInt < a.toInt then v else a,
      { g with v := t.st0.v || decide (a.toInt < v.toInt) }) ∧
    (0 ≤ d → exec (.subcu loc) s = accNext t 1 (BitVec.ofInt 32 (d + 1),
      { t.st0 with c := true, n := (BitVec.ofInt 32 (d + 1)).msb, z := BitVec.ofInt 32 (d + 1) == 0 })) ∧
    (d < 0 → exec (.subcu loc) s = accNext t 1 (t.acc <<< 1,
      { t.st0 with c := false, n := (t.acc <<< 1).msb, z := t.acc <<< 1 == 0 }))

/-- R274, R282, R285, R290: AH or AL with a constant, NEG AX, and CMPR of AR(ARP) with AR0, unsigned. -/
def Obligations.AxAndCmprResults : Prop :=
  ∀ (s : State) (ax : AccHalf) (k : BitVec 8),
    let x := (lowWord (s.xar.get s.st1.arp)).toNat
    let y := (lowWord (s.xar.get .xar0)).toNat
    exec (.addbAx ax k) s = axNext s 1 ax (add16 s.st0 (s.ax ax) (k.signExtend 16)) ∧
    exec (.cmpbAx ax k) s = st0Next s 1 (cmpFlags s.st0 (s.ax ax) (k.zeroExtend 16)) ∧
    exec (.negAx ax) s = axNext s 1 ax (neg16 s.st0 (s.ax ax)) ∧
    exec .cmpr0 s = st0Next s 1 { s.st0 with tc := decide (x = y) } ∧
    exec .cmpr1 s = st0Next s 1 { s.st0 with tc := decide (x < y) } ∧
    exec .cmpr2 s = st0Next s 1 { s.st0 with tc := decide (y < x) } ∧
    exec .cmpr3 s = st0Next s 1 { s.st0 with tc := decide (x ≠ y) } ∧
    s.ax .al = lowWord s.acc ∧ s.ax .ah = highWord s.acc

/-- R272, R273, R276 to R279, R288, R289: the read-modify-write instructions of a word: the new value stored where the
operand was read, one pointer update, and the flags; TCLR and TSET put the old bit in TC. The order of pointer update
and result is log 31. -/
def Obligations.WordUpdateResults : Prop :=
  ∀ (s t : State) (loc : Loc) (pl : Place) (v : Word), Selects .word s loc pl t → readPlace16 t pl = .ok v →
    Place.Open16 t pl → ∀ (i : Instr) (len : ProgAddr) (r : Word × St0),
      (∃ ax, i = .addLoc16Ax ax loc ∧ len = 1 ∧ r = add16 s.st0 v (s.ax ax)) ∨
      (∃ c, i = .addLoc16Imm loc c ∧ len = 2 ∧ r = add16 s.st0 v c) ∨
      (∃ ax, i = .subLoc16Ax ax loc ∧ len = 1 ∧ r = sub16 s.st0 v (s.ax ax)) ∨
      (∃ ax, i = .subrLoc16Ax ax loc ∧ len = 1 ∧ r = sub16 s.st0 (s.ax ax) v) ∨
      (i = .incLoc16 loc ∧ len = 1 ∧ r = add16 s.st0 v 1) ∨ (i = .decLoc16 loc ∧ len = 1 ∧ r = sub16 s.st0 v 1) ∨
      (∃ b, i = .tclr b loc ∧ len = 2 ∧
        r = (v &&& ~~~(1#16 <<< b.toNat), { s.st0 with tc := v.getLsbD b.toNat })) ∨
      (∃ b, i = .tset b loc ∧ len = 2 ∧ r = (v ||| 1#16 <<< b.toNat, { s.st0 with tc := v.getLsbD b.toNat })) →
      ∃ u, Stored16 { t with st0 := r.2 } pl r.1 u ∧ exec i s = .next { u with pc := u.pc + len }

/-- R311 to R331: every shift and rotate: the register, the source of the count (an immediate is encoded as count
minus 1, T gives 4, 5 or 6 bits), and SXM for SFR. What `lsl`, `lsr`, `asr`, `rol` and `ror` compute is the statement
ShiftsAreScaling. -/
def Obligations.ShiftResults : Prop :=
  ∀ (s : State) (sh : BitVec 4) (ax : AccHalf),
    let n := sh.toNat + 1
    let k4 := s.xt.toNat / 65536 % 16
    let k5 := s.xt.toNat / 65536 % 32
    let k6 := s.xt.toNat / 65536 % 64
    let q : Quad := s.acc ++ s.p
    exec (.lslAccImm sh) s = accNext s 1 (lsl s.st0 s.acc n) ∧ exec .lslAccT s = accNext s 1 (lsl s.st0 s.acc k4) ∧
    exec .lsllAccT s = accNext s 1 (lsl s.st0 s.acc k5) ∧
    (s.st0.sxm = true → exec (.sfrAccImm sh) s = accNext s 1 (asr s.st0 s.acc n) ∧
      exec .sfrAccT s = accNext s 1 (asr s.st0 s.acc k4)) ∧
    (s.st0.sxm = false → exec (.sfrAccImm sh) s = accNext s 1 (lsr s.st0 s.acc n) ∧
      exec .sfrAccT s = accNext s 1 (lsr s.st0 s.acc k4)) ∧
    exec .lsrlAccT s = accNext s 1 (lsr s.st0 s.acc k5) ∧ exec .asrlAccT s = accNext s 1 (asr s.st0 s.acc k5) ∧
    exec .rolAcc s = accNext s 1 (rol s.st0 s.acc) ∧ exec .rorAcc s = accNext s 1 (ror s.st0 s.acc) ∧
    exec (.lslAxImm ax sh) s = axNext s 1 ax (lsl s.st0 (s.ax ax) n) ∧
    exec (.lslAxT ax) s = axNext s 1 ax (lsl s.st0 (s.ax ax) k4) ∧
    exec (.lsrAxImm ax sh) s = axNext s 1 ax (lsr s.st0 (s.ax ax) n) ∧
    exec (.lsrAxT ax) s = axNext s 1 ax (lsr s.st0 (s.ax ax) k4) ∧
    exec (.asrAxImm ax sh) s = axNext s 1 ax (asr s.st0 (s.ax ax) n) ∧
    exec (.asrAxT ax) s = axNext s 1 ax (asr s.st0 (s.ax ax) k4) ∧
    exec (.lsl64Imm sh) s = accPNext s 1 (lsl s.st0 q n) ∧ exec .lsl64T s = accPNext s 1 (lsl s.st0 q k6) ∧
    exec (.lsr64Imm sh) s = accPNext s 1 (lsr s.st0 q n) ∧ exec .lsr64T s = accPNext s 1 (lsr s.st0 q k6) ∧
    exec (.asr64Imm sh) s = accPNext s 1 (asr s.st0 q n) ∧ exec .asr64T s = accPNext s 1 (asr s.st0 q k6)

/-- R352, R354 to R361: loads of T and 16 x 16 multiplications with a word operand: ACC accumulates the shifted old P,
T is the upper half of XT. -/
def Obligations.WordMultiplyResults : Prop :=
  ∀ (s t : State) (loc : Loc) (v : Word) (c : BitVec 16), Reads16 s loc v t →
    let q := pshift t.st0.pm t.st1.amode t.p
    let add := addAcc t.st0 t.acc q false
    let sub := subAcc t.st0 t.acc q false
    let loaded : Long := v ++ lowWord t.xt
    let m := mul16s (highWord t.xt) v
    let k := mul16s v c
    exec (.mova loc) s = .next { t with acc := add.1, st0 := add.2, xt := loaded, pc := t.pc + 1 } ∧
    exec (.movs loc) s = .next { t with acc := sub.1, st0 := sub.2, xt := loaded, pc := t.pc + 1 } ∧
    exec (.movp loc) s = .next { t with acc := q, st0 := { t.st0 with n := q.msb, z := q == 0 }, xt := loaded,
                                        pc := t.pc + 1 } ∧
    exec (.mpyPT loc) s = .next { t with p := m, pc := t.pc + 1 } ∧
    exec (.mpyPImm loc c) s = .next { t with p := k, pc := t.pc + 2 } ∧
    exec (.mpyAccT loc) s = .next { t with acc := m, st0 := { t.st0 with n := m.msb, z := m == 0 }, pc := t.pc + 1 } ∧
    exec (.mpyAccImm loc c) s = .next { t with acc := k, st0 := { t.st0 with n := k.msb, z := k == 0 }, xt := loaded,
                                               pc := t.pc + 2 } ∧
    exec (.mpyaPImm loc c) s = .next { t with acc := add.1, st0 := add.2, xt := loaded, p := k, pc := t.pc + 2 } ∧
    exec (.mpyaPT loc) s = .next { t with acc := add.1, st0 := add.2, p := m, pc := t.pc + 1 } ∧
    exec (.mpysPT loc) s = .next { t with acc := sub.1, st0 := sub.2, p := m, pc := t.pc + 1 } ∧
    exec (.sqra loc) s = .next { t with acc := add.1, st0 := add.2, xt := loaded, p := mul16s v v, pc := t.pc + 2 } ∧
    exec (.sqrs loc) s = .next { t with acc := sub.1, st0 := sub.2, xt := loaded, p := mul16s v v, pc := t.pc + 2 }

/-- R362, R363, R370, R125: the multiply-accumulates with a program word: its address is the constant or XAR7; under
RPT a temporary copy of the address is used and moves on by 1, and the `++` form moves XAR7 instead (log 22). -/
def Obligations.ProgramWordMacResults : Prop :=
  ∀ (s t : State) (loc : Loc) (v m : Word) (c : BitVec 16) (a : ProgAddr), Reads16 s loc v t →
    readProg t a = .ok m →
    let r := addAcc t.st0 t.acc (pshift t.st0.pm t.st1.amode t.p) false
    let u := { t with acc := r.1, st0 := r.2, xt := v ++ lowWord t.xt, p := mul16s v m, pc := t.pc + 2 }
    let u' := { u with rptAddr := if s.repeating then some (a + 1) else t.rptAddr }
    let here (base : ProgAddr) : ProgAddr := if s.repeating then s.rptAddr.getD base else base
    (here (0#6 ++ c) = a → exec (.macPma loc c) s = .next u') ∧
    (here (0x3F#6 ++ c) = a → exec (.xmac loc c) s = .next u') ∧
    (s.locUsesXar7 loc = false → here ((s.xar.get .xar7).extractLsb' 0 22) = a →
      exec (.macXar7 loc) s = .next u') ∧
    (s.locUsesXar7 loc = false → (s.xar.get .xar7).extractLsb' 0 22 = a →
      exec (.macXar7Inc loc) s = .next { u with xar := t.xar.set .xar7 (t.xar.get .xar7 + 1) })

/-- R353, R371: the forms with a data move: the word read is also stored at the next data address. The next address
and the temporary address are log 17, 22. -/
def Obligations.DataMoveResults : Prop :=
  ∀ (s t : State) (loc : Loc) (a : DataAddr) (v m : Word) (c : BitVec 16) (b : ProgAddr),
    Selects .word s loc (.mem a) t → readData t a = .ok v → Place.Open16 t (.mem (a + 1)) →
    let r := addAcc t.st0 t.acc (pshift t.st0.pm t.st1.amode t.p) false
    let w := { t with acc := r.1, st0 := r.2, xt := v ++ lowWord t.xt }
    (∃ u, Stored16 w (.mem (a + 1)) v u ∧ exec (.movad loc) s = .next { u with pc := u.pc + 1 }) ∧
    (readProg t b = .ok m → (if s.repeating then s.rptAddr.getD (0x3F#6 ++ c) else 0x3F#6 ++ c) = b →
      ∃ u, Stored16 { w with p := mul16s v m, rptAddr := if s.repeating then some (b + 1) else t.rptAddr }
          (.mem (a + 1)) v u ∧
        exec (.xmacd loc c) s = .next { u with pc := u.pc + 2 })

/-- R364, R369, R374, R125: the multiply-accumulates of a long operand with 32 bits of program space through XAR7; the
`++` forms move XAR7 by 2, and under RPT the temporary copy of the address of IMACL and QMACL moves by 2 (log 22). -/
def Obligations.ProgramLongMacResults : Prop :=
  ∀ (s t : State) (loc : Loc) (v m : Long) (a : ProgAddr), Reads32 s loc v t → readProg32 t a = .ok m →
    s.locUsesXar7 loc = false →
    let f := pshift t.st0.pm t.st1.amode
    let d := addAcc t.st0 t.acc (f (mul16s (highWord v) (highWord m))) false
    let i := addU32 t.st0 t.acc t.p
    let q := addAcc t.st0 t.acc (f t.p) false
    let dm := { t with acc := d.1, st0 := d.2, xt := v, p := t.p + f (mul16s (lowWord v) (lowWord m)), pc := t.pc + 2 }
    let im := { t with acc := i.1, st0 := i.2, p := iprod t.st0.pm t.st1.amode (mul32s v m), pc := t.pc + 2 }
    let qm := { t with acc := q.1, st0 := q.2, p := mulHi v m, pc := t.pc + 2 }
    let x := (s.xar.get .xar7).extractLsb' 0 22
    let on (k : ProgAddr) : Option ProgAddr := if s.repeating then some (a + k) else t.rptAddr
    let up := t.xar.set .xar7 (t.xar.get .xar7 + 2)
    ((if s.repeating then s.rptAddr.getD x else x) = a →
      exec (.dmacXar7 loc) s = .next { dm with rptAddr := on 0 } ∧
      exec (.imaclXar7 loc) s = .next { im with rptAddr := on 2 } ∧
      exec (.qmaclXar7 loc) s = .next { qm with rptAddr := on 2 }) ∧
    (x = a →
      exec (.dmacXar7Inc loc) s = .next { dm with xar := up } ∧
      exec (.imaclXar7Inc loc) s = .next { im with xar := up } ∧
      exec (.qmaclXar7Inc loc) s = .next { qm with xar := up })

/-- R365 to R368, R372, R373: the 32 x 32 multiplications of XT with a long operand. -/
def Obligations.LongMultiplyResults : Prop :=
  ∀ (s t : State) (loc : Loc) (v : Long), Reads32 s loc v t →
    let x := iprod t.st0.pm t.st1.amode (mul32s t.xt v)
    let q := pshift t.st0.pm t.st1.amode t.p
    let done (r : Long × St0) (p : Long) : Host.Outcome State Fault Refusal :=
      .next { t with acc := r.1, st0 := r.2, p := p, pc := t.pc + 2 }
    exec (.impyl loc) s = done (t.acc, t.st0) x ∧
    exec (.impyxul loc) s = done (t.acc, t.st0) (iprod t.st0.pm t.st1.amode (mul32su t.xt v)) ∧
    exec (.impyal loc) s = .next { t with
      acc := (addU32 t.st0 t.acc t.p).1, st0 := (addU32 t.st0 t.acc t.p).2, p := x, pc := t.pc + 2 } ∧
    exec (.impysl loc) s = .next { t with
      acc := (subU32 t.st0 t.acc t.p).1, st0 := (subU32 t.st0 t.acc t.p).2, p := x, pc := t.pc + 2 } ∧
    exec (.qmpyal loc) s = done (addAcc t.st0 t.acc q false) (mulHi t.xt v) ∧
    exec (.qmpysl loc) s = done (subAcc t.st0 t.acc q false) (mulHi t.xt v)

/-- R56, R184, R185, R286, R287, R391, R393, R401, R406, R454 to R456: the instructions that load a register or a
field from a word operand, and one evaluation of a loop instruction: while the condition to go on holds LOOP is set
and the pc stays; else LOOP is cleared and the pc moves on. That N and Z are of the masked 16 bits, and one evaluation
is a step, is log 25. The carrier of MOV ARx with any n and loc and the cleared upper half (log 9), a result that
overrides the pointer update (log 31), the shift field 0 (log 8) and the fields of a repeat (log 22) are the model's
choices. -/
def Obligations.WordLoadAndLoopResults : Prop :=
  ∀ (s t : State) (loc : Loc) (v c : Word) (sh b : BitVec 4) (n : XReg), Reads16 s loc v t →
    let x : Long := if t.st0.sxm then v.signExtend 32 else v.zeroExtend 32
    let k := t.xt.toNat / 65536 % 16
    let z := v &&& c
    let again := { t with st0 := { t.st0 with n := z.msb, z := z == 0 }, st1 := { t.st1 with loop := true } }
    let done := { t with st0 := { t.st0 with n := z.msb, z := z == 0 }, st1 := { t.st1 with loop := false },
                         pc := t.pc + 2 }
    let load (len : ProgAddr) (y : Long) : Host.Outcome State Fault Refusal :=
      accNext t len (y, { t.st0 with n := y.msb, z := y == 0 })
    exec (.movAccLoc16 loc) s = load 1 x ∧ exec (.movAccLoc16Shl sh loc) s = load 2 (x <<< sh.toNat) ∧
    exec (.movAccLoc16Shl16 loc) s = load 1 (x <<< 16) ∧ exec (.movAccLoc16ShlT loc) s = load 2 (x <<< k) ∧
    exec (.movOvcLoc16 loc) s = st0Next t 2 { t.st0 with ovc := v.extractLsb' 10 6 } ∧
    exec (.movuOvcLoc16 loc) s = st0Next t 2 { t.st0 with ovc := v.extractLsb' 0 6 } ∧
    exec (.tbitImm b loc) s = st0Next t 1 { t.st0 with tc := v.getLsbD b.toNat } ∧
    exec (.tbitT loc) s = st0Next t 2 { t.st0 with tc := v.getLsbD (15 - k) } ∧
    exec (.movArx n loc) s = .next { t with xar := t.xar.set n (v.zeroExtend 32), pc := t.pc + 1 } ∧
    exec (.movIerLoc16 loc) s = .next { t with ier := v, pc := t.pc + 1 } ∧
    exec (.rptLoc16 loc) s = .next { t with rptc := v, repeating := true, rptAddr := none, pc := t.pc + 1 } ∧
    (v &&& c ≠ 0 → exec (.loopnz loc c) s = .next again ∧ exec (.loopz loc c) s = .next done) ∧
    (v &&& c = 0 → exec (.loopnz loc c) s = .next done ∧ exec (.loopz loc c) s = .next again)

/-- R394 to R397, R405: the stores of a word: ACC shifted, P shifted by PM, IER; no flag changes. The shift field 0 of
the two-word forms (log 8), and that no flag changes where the rules state none (log 36), are the model's choices. -/
def Obligations.WordStoreResults : Prop :=
  ∀ (s t : State) (loc : Loc) (pl : Place), Selects .word s loc pl t → Place.Open16 t pl →
    ∀ (i : Instr) (len : ProgAddr) (v : Word),
      (i = .movLoc16AccShl1 loc ∧ len = 1 ∧ v = lowWord (s.acc <<< 1)) ∨
      (∃ sh, i = .movLoc16AccShl sh loc ∧ len = 2 ∧ v = lowWord (s.acc <<< (sh.toNat + 1))) ∨
      (i = .movhLoc16AccShl1 loc ∧ len = 1 ∧ v = highWord (s.acc <<< 1)) ∨
      (∃ sh, i = .movhLoc16AccShl sh loc ∧ len = 2 ∧ v = highWord (s.acc <<< (sh.toNat + 1))) ∨
      (i = .movLoc16P loc ∧ len = 1 ∧ v = lowWord (pshift s.st0.pm s.st1.amode s.p)) ∨
      (i = .movhLoc16P loc ∧ len = 1 ∧ v = highWord (pshift s.st0.pm s.st1.amode s.p)) ∨
      (i = .movLoc16Ier loc ∧ len = 1 ∧ v = s.ier) →
      ∃ u, Stored16 t pl v u ∧ exec i s = .next { u with pc := u.pc + len }

/-- R150, R398, R399, R400: the conditional moves: with the condition true the store, with it false none; the pointer
update and, where the condition tests V, V <- 0 in both cases. -/
def Obligations.ConditionalMoveResults : Prop :=
  ∀ (s t : State) (loc : Loc) (pl : Place) (cond : Cond), cond ≠ .nbio →
    let f : St0 := { s.st0 with v := s.st0.v && decide (cond ≠ .nov) && decide (cond ≠ .ov) }
    (Selects .word s loc pl t → ∀ (i : Instr) (v : Word),
      (∃ ax, i = .movLoc16AxCond ax cond loc ∧ v = s.ax ax) ∨
      (∃ k : BitVec 8, i = .movbLoc16Cond cond k loc ∧ v = k.zeroExtend 16) →
      (condHolds s.st0 cond = true → Place.Open16 t pl →
        ∃ u, Stored16 { t with st0 := f } pl v u ∧ exec i s = .next { u with pc := u.pc + 2 }) ∧
      (condHolds s.st0 cond = false → exec i s = .next { t with st0 := f, pc := t.pc + 2 })) ∧
    (Selects .long s loc pl t →
      (condHolds s.st0 cond = true → Place.Open32 t pl →
        ∃ u, Stored32 { t with st0 := f } pl s.acc u ∧
          exec (.movlLoc32AccCond cond loc) s = .next { u with pc := u.pc + 2 }) ∧
      (condHolds s.st0 cond = false → exec (.movlLoc32AccCond cond loc) s = .next { t with st0 := f, pc := t.pc + 2 }))

/-- R390, R411, R412, R414 to R416, R418, R421: the pushes: the register stored at SP, a pair from the even address, and
SP up by 1 or 2; only the pushes that are `loc` encodings (IER, XARn, XT) need a mode in which a `loc` field does not
trap. -/
def Obligations.PushResults : Prop :=
  ∀ (s : State) (i : Instr),
    let runs := ¬ (s.st1.page0 = true ∧ s.st1.amode = true)
    (∀ v : Word, Place.Open16 s (.mem (s.sp.zeroExtend 32)) →
      (i = .pushIfr ∧ v = s.ifr) ∨ (i = .pushDbgier ∧ v = s.dbgier) ∨ (i = .pushSt0 ∧ v = s.st0Word) ∨
      (i = .pushSt1 ∧ v = s.st1Word) ∨ (runs ∧ i = .pushIer ∧ v = s.ier) →
      ∃ u, Stored16 s (.mem (s.sp.zeroExtend 32)) v u ∧ exec i s = .next { u with sp := s.sp + 1, pc := s.pc + 1 }) ∧
    (∀ v : Long, Place.Open32 s (.mem (s.sp.zeroExtend 32)) →
      (i = .pushAr1hAr0h ∧ v = highWord s.xar.x1 ++ highWord s.xar.x0) ∨
      (runs ∧ ((i = .pushXar0 ∧ v = s.xar.x0) ∨ (i = .pushXar1 ∧ v = s.xar.x1) ∨ (i = .pushXar2 ∧ v = s.xar.x2) ∨
        (i = .pushXar3 ∧ v = s.xar.x3) ∨ (i = .pushXar4 ∧ v = s.xar.x4) ∨ (i = .pushXar5 ∧ v = s.xar.x5) ∨
        (i = .pushXar6 ∧ v = s.xar.x6) ∨ (i = .pushXar7 ∧ v = s.xar.x7) ∨ (i = .pushXt ∧ v = s.xt))) →
      ∃ u, Stored32 s (.mem (s.sp.zeroExtend 32)) v u ∧ exec i s = .next { u with sp := s.sp + 2, pc := s.pc + 1 })

/-- R390, R413 to R415, R417, R418: the pops: SP down by 1 or 2, then the register from there; POP ST1 keeps IDLESTAT
and LOOP, POP AR1H:AR0H keeps AR1 and AR0. What POP ST1 keeps is log 26. -/
def Obligations.PopResults : Prop :=
  ∀ s : State,
    (∀ v : Word, readData { s with sp := s.sp - 1 } ((s.sp - 1).zeroExtend 32) = .ok v →
      exec .popDbgier s = .next { s with dbgier := v, sp := s.sp - 1, pc := s.pc + 1 } ∧
      exec .popSt0 s = .next { s with st0 := St0.ofWord v, sp := s.sp - 1, pc := s.pc + 1 } ∧
      exec .popSt1 s = .next { s with
        st1 := { St1.load s.st1 v with idlestat := s.st1.idlestat, loop := s.st1.loop }
        sp := s.sp - 1, pc := s.pc + 1 }) ∧
    (∀ v : Long, readData32 { s with sp := s.sp - 2 } ((s.sp - 2).zeroExtend 32) = .ok v →
      let r (x : XarFile) : Host.Outcome State Fault Refusal := .next { s with xar := x, sp := s.sp - 2, pc := s.pc + 1 }
      exec .popAr1hAr0h s = r { s.xar with x0 := lowWord v ++ lowWord s.xar.x0, x1 := highWord v ++ lowWord s.xar.x1 } ∧
      (¬ (s.st1.page0 = true ∧ s.st1.amode = true) →
        exec .popXar0 s = r { s.xar with x0 := v } ∧ exec .popXar1 s = r { s.xar with x1 := v } ∧
        exec .popXar2 s = r { s.xar with x2 := v } ∧ exec .popXar3 s = r { s.xar with x3 := v } ∧
        exec .popXar4 s = r { s.xar with x4 := v } ∧ exec .popXar5 s = r { s.xar with x5 := v } ∧
        exec .popXar6 s = r { s.xar with x6 := v } ∧ exec .popXar7 s = r { s.xar with x7 := v } ∧
        exec .popXt s = .next { s with xt := v, sp := s.sp - 2, pc := s.pc + 1 }))

/-- R29, R45, R49, R418: the status registers as words: reading back a loaded word gives ST0 whole, and ST1 but for
IDLESTAT, LOOP and the reserved bit, which reads 0; each field stands at the bit the figure gives. -/
def Obligations.StatusWordsRoundTrip : Prop :=
  (∀ w : Word, (St0.ofWord w).toWord = w) ∧ (∀ f : St0, St0.ofWord f.toWord = f) ∧
  (∀ (f : St1) (w : Word) (k : Nat), k < 16 → k ≠ 10 → k ≠ 7 → k ≠ 5 → (f.load w).toWord.getLsbD k = w.getLsbD k) ∧
  (∀ (f : St1) (w : Word), (f.load w).toWord.getLsbD 10 = false ∧ (f.load w).idlestat = f.idlestat ∧
    (f.load w).loop = f.loop) ∧
  (∀ f : St1, f.load f.toWord = f) ∧
  (∀ f : St0, f.toWord.toNat = 1024 * f.ovc.toNat + 128 * f.pm.toNat + 64 * f.v.toNat + 32 * f.n.toNat +
    16 * f.z.toNat + 8 * f.c.toNat + 4 * f.tc.toNat + 2 * f.ovm.toNat + f.sxm.toNat) ∧
  ∀ f : St1, f.toWord.toNat = 8192 * f.arp.num + 4096 * f.xf.toNat + 2048 * f.m0m1map.toNat + 512 * f.objmode.toNat +
    256 * f.amode.toNat + 128 * f.idlestat.toNat + 64 * f.eallow.toNat + 32 * f.loop.toNat + 16 * f.spa.toNat +
    8 * f.vmap.toNat + 4 * f.page0.toNat + 2 * f.dbgm.toNat + f.intm.toNat

/-- R420, R422, R125, R101: PREAD stores the program word at XAR7 in the operand, PWRITE stores the operand in the
program word at XAR7; XAR7 stays, and under RPT a temporary copy of the address is used and moves on by 1 (log 22).
The address is XAR7 before a pointer update of the operand's mode (log 31). -/
def Obligations.ProgramSpaceMoveResults : Prop :=
  ∀ (s t : State) (loc : Loc) (pl : Place) (v : Word) (a : ProgAddr),
    (let x := (s.xar.get .xar7).extractLsb' 0 22; (if s.repeating then s.rptAddr.getD x else x) = a) →
    let on : Option ProgAddr := if s.repeating then some (a + 1) else t.rptAddr
    (Selects .word s loc pl t → readProg t a = .ok v → Place.Open16 t pl →
      ∃ u, Stored16 { t with rptAddr := on } pl v u ∧ exec (.pread loc) s = .next { u with pc := u.pc + 1 }) ∧
    (Reads16 s loc v t → t.unorderedWrite (t.progWord a) true = false →
      ∃ m, m.word (t.progWord a) = v ∧ (∀ b, b / 2 ≠ t.progWord a → m.get b = t.mem.get b) ∧
        exec (.pwrite loc) s = .next { t with
          mem := m, stores := t.mark (t.progWord a) true, rptAddr := on, pc := t.pc + 1 })

/-- R150, R440 to R448: the branches: the target where the condition holds, else the next instruction; a condition
that tests V clears it either way; BANZ and XBANZ test before the register moves. The pointer step of XBANZ is 1 (log
32). -/
def Obligations.BranchResults : Prop :=
  ∀ (s : State) (cond : Cond) (c : BitVec 16) (k : BitVec 8) (n m : XReg), cond ≠ .nbio →
    let f : St0 := { s.st0 with v := s.st0.v && decide (cond ≠ .nov) && decide (cond ≠ .ov) }
    let h := condHolds s.st0 cond
    let far := s.pc + c.signExtend 22
    let near := s.pc + k.signExtend 22
    let top : ProgAddr := 0x3F#6 ++ c
    let ar (j : XReg) : Word := lowWord (s.xar.get j)
    let cur := s.xar.get s.st1.arp
    let go (b : Bool) (target : ProgAddr) (x : Long) : Host.Outcome State Fault Refusal :=
      .next { s with pc := if b then target else s.pc + 2, xar := s.xar.set s.st1.arp x }
    let live := decide (lowWord cur ≠ 0)
    exec (.b cond c) s = .next { s with st0 := f, pc := if h then far else s.pc + 2 } ∧
    exec (.bf cond c) s = .next { s with st0 := f, pc := if h then far else s.pc + 2 } ∧
    exec (.sb cond k) s = .next { s with st0 := f, pc := if h then near else s.pc + 1 } ∧
    exec (.xb cond c) s = .next { s with st0 := f, pc := if h then top else s.pc + 2 } ∧
    exec (.sbfEq k) s = .next { s with pc := if s.st0.z then near else s.pc + 1 } ∧
    exec (.sbfNeq k) s = .next { s with pc := if s.st0.z then s.pc + 1 else near } ∧
    exec (.sbfTc k) s = .next { s with pc := if s.st0.tc then near else s.pc + 1 } ∧
    exec (.sbfNtc k) s = .next { s with pc := if s.st0.tc then s.pc + 1 else near } ∧
    exec (.banz n c) s = .next { s with
      pc := if ar n = 0 then s.pc + 2 else far, xar := s.xar.set n (highWord (s.xar.get n) ++ (ar n - 1)) } ∧
    exec (.barEq n m c) s = .next { s with pc := if ar n = ar m then far else s.pc + 2 } ∧
    exec (.barNeq n m c) s = .next { s with pc := if ar n = ar m then s.pc + 2 else far } ∧
    exec (.xbanzInd c) s = .next { s with pc := if live then top else s.pc + 2 } ∧
    exec (.xbanzIndInc c) s = go live top (cur + 1) ∧ exec (.xbanzIndDec c) s = go live top (cur - 1) ∧
    exec (.xbanzInd0Inc c) s = go live top (cur + (ar .xar0).zeroExtend 32) ∧
    exec (.xbanzInd0Dec c) s = go live top (cur - (ar .xar0).zeroExtend 32)

/-- R449 to R452, R28: calls and returns: XCALL pushes the low word of the return address and XRETC pops it; LCR pushes
RPC low word first and loads RPC with the return address; LRETR goes to RPC and pops it, high word first. -/
def Obligations.CallReturnResults : Prop :=
  ∀ (s : State) (cond : Cond) (c : BitVec 16) (d : BitVec 22), cond ≠ .nbio →
    let f : St0 := { s.st0 with v := s.st0.v && decide (cond ≠ .nov) && decide (cond ≠ .ov) }
    let at0 : Place := .mem (s.sp.zeroExtend 32)
    let at1 : Place := .mem ((s.sp + 1).zeroExtend 32)
    (condHolds s.st0 cond = true → Place.Open16 s at0 →
      ∃ u, Stored16 { s with st0 := f } at0 ((s.pc + 2).extractLsb' 0 16) u ∧
        exec (.xcall cond c) s = .next { u with sp := s.sp + 1, pc := 0x3F#6 ++ c }) ∧
    (condHolds s.st0 cond = false → exec (.xcall cond c) s = .next { s with st0 := f, pc := s.pc + 2 }) ∧
    (∀ v, condHolds s.st0 cond = true → readData s ((s.sp - 1).zeroExtend 32) = .ok v →
      exec (.xretc cond) s = .next { s with st0 := f, sp := s.sp - 1, pc := 0x3F#6 ++ v }) ∧
    (condHolds s.st0 cond = false → exec (.xretc cond) s = .next { s with st0 := f, pc := s.pc + 1 }) ∧
    (Place.Open16 s at0 → Place.Open16 s at1 →
      ∃ u w, Stored16 s at0 (s.rpc.extractLsb' 0 16) u ∧
        Stored16 { u with sp := s.sp + 1 } at1 ((s.rpc.extractLsb' 16 6).zeroExtend 16) w ∧
        exec (.lcr d) s = .next { w with sp := s.sp + 2, rpc := s.pc + 2, pc := d }) ∧
    (∀ hi lo, readData s ((s.sp - 1).zeroExtend 32) = .ok hi → readData s ((s.sp - 2).zeroExtend 32) = .ok lo →
      exec .lretr s = .next { s with sp := s.sp - 2, pc := s.rpc, rpc := hi.extractLsb' 0 6 ++ lo })
end

