-- ==== Sys2Proof/Laws/Memory.lean ====
section
/-! SUPPORT. The laws of memory: a byte read after a write, the canonical form kept by every operation, words. -/

namespace Sys2Proof.Machine

/-! ## Bytes -/

theorem Memory.get_erase_self (m : Memory) (a : Nat) : (m.erase a).get a = Config.unwrittenByte := by
  induction m with
  | nil => rfl
  | cons e m ih =>
    obtain ⟨k, v⟩ := e
    simp only [Memory.erase]
    split
    · exact ih
    · simp only [Memory.get, ih]; rw [if_neg ‹_›]

theorem Memory.get_erase_ne (m : Memory) (a b : Nat) (h : b ≠ a) : (m.erase a).get b = m.get b := by
  induction m with
  | nil => rfl
  | cons e m ih =>
    obtain ⟨k, v⟩ := e
    simp only [Memory.erase]
    split
    · rename_i hk; rw [ih]; simp only [Memory.get]; rw [if_neg (by omega)]
    · simp only [Memory.get, ih]

theorem Memory.get_insert_self (m : Memory) (a : Nat) (b : Byte) (h : ∀ e ∈ m, e.1 ≠ a) :
    (m.insert a b).get a = b := by
  induction m with
  | nil => simp [Memory.insert, Memory.get]
  | cons e m ih =>
    obtain ⟨k, v⟩ := e
    simp only [Memory.insert]
    split
    · simp [Memory.get]
    · have hk : k ≠ a := h (k, v) (by simp)
      simp only [Memory.get]
      rw [if_neg hk]
      exact ih (fun e he => h e (by simp [he]))

theorem Memory.get_insert_ne (m : Memory) (a c : Nat) (b : Byte) (h : c ≠ a) :
    (m.insert a b).get c = m.get c := by
  induction m with
  | nil => simp [Memory.insert, Memory.get, h.symm]
  | cons e m ih =>
    obtain ⟨k, v⟩ := e
    simp only [Memory.insert]
    split
    · simp [Memory.get, h.symm]
    · simp only [Memory.get, ih]

theorem Memory.ne_of_mem_erase (m : Memory) (a : Nat) : ∀ e ∈ m.erase a, e.1 ≠ a := by
  induction m with
  | nil => simp [Memory.erase]
  | cons e m ih =>
    obtain ⟨k, v⟩ := e
    intro e' he
    simp only [Memory.erase] at he
    split at he
    · exact ih e' he
    · rcases List.mem_cons.1 he with rfl | he
      · assumption
      · exact ih e' he

/-- A byte read where it was written. -/
@[simp] theorem Memory.get_set_self (m : Memory) (a : Nat) (b : Byte) : (m.set a b).get a = b := by
  unfold Memory.set
  split
  · rename_i h; rw [Memory.get_erase_self, h]
  · exact Memory.get_insert_self _ _ _ (Memory.ne_of_mem_erase m a)

/-- A write leaves every other byte alone. -/
theorem Memory.get_set_ne (m : Memory) (a c : Nat) (b : Byte) (h : c ≠ a) : (m.set a b).get c = m.get c := by
  unfold Memory.set
  split
  · exact Memory.get_erase_ne m a c h
  · rw [Memory.get_insert_ne _ _ _ _ h, Memory.get_erase_ne m a c h]

/-! ## The canonical form -/

theorem Memory.wfFrom_cons (lo k : Nat) (v : Byte) (m : Memory) :
    Memory.wfFrom lo ((k, v) :: m) = true ↔
      lo ≤ k ∧ k < 8589934592 ∧ v ≠ Config.unwrittenByte ∧ Memory.wfFrom (k + 1) m = true := by
  simp [Memory.wfFrom, and_assoc]

theorem Memory.wfFrom_mono (lo lo' : Nat) (m : Memory) (h : lo' ≤ lo) (hm : m.wfFrom lo = true) :
    m.wfFrom lo' = true := by
  cases m with
  | nil => rfl
  | cons e m =>
    obtain ⟨k, v⟩ := e
    rw [Memory.wfFrom_cons] at hm ⊢
    exact ⟨by omega, hm.2⟩

theorem Memory.wfFrom_erase (m : Memory) (a : Nat) : ∀ lo, m.wfFrom lo = true → (m.erase a).wfFrom lo = true := by
  induction m with
  | nil => intro lo _; rfl
  | cons e m ih =>
    obtain ⟨k, v⟩ := e
    intro lo h
    rw [Memory.wfFrom_cons] at h
    obtain ⟨h1, h2, h3, h4⟩ := h
    simp only [Memory.erase]
    split
    · exact Memory.wfFrom_mono _ _ _ (by omega) (ih _ h4)
    · rw [Memory.wfFrom_cons]; exact ⟨h1, h2, h3, ih _ h4⟩

theorem Memory.wfFrom_insert (m : Memory) (a : Nat) (b : Byte) (hb : b ≠ Config.unwrittenByte)
    (ha : a < 8589934592) (hn : ∀ e ∈ m, e.1 ≠ a) :
    ∀ lo, lo ≤ a → m.wfFrom lo = true → (m.insert a b).wfFrom lo = true := by
  induction m with
  | nil => intro lo h _; simp [Memory.insert, Memory.wfFrom, h, ha, hb]
  | cons e m ih =>
    obtain ⟨k, v⟩ := e
    intro lo h hm
    rw [Memory.wfFrom_cons] at hm
    obtain ⟨h1, h2, h3, h4⟩ := hm
    have hk : k ≠ a := hn (k, v) (by simp)
    simp only [Memory.insert]
    split
    · rw [Memory.wfFrom_cons, Memory.wfFrom_cons]; exact ⟨h, ha, hb, by omega, h2, h3, h4⟩
    · rw [Memory.wfFrom_cons]
      exact ⟨h1, h2, h3, ih (fun e he => hn e (by simp [he])) _ (by omega) h4⟩

/-- A byte written keeps the canonical form. -/
theorem Memory.wf_set (m : Memory) (a : Nat) (b : Byte) (h : m.wf = true) (ha : a < 8589934592) :
    (m.set a b).wf = true := by
  unfold Memory.set
  split
  · exact Memory.wfFrom_erase m a 0 h
  · exact Memory.wfFrom_insert _ a b ‹_› ha (Memory.ne_of_mem_erase m a) 0 (Nat.zero_le _)
      (Memory.wfFrom_erase m a 0 h)

/-- A word written keeps the canonical form. -/
theorem Memory.wf_setWord (m : Memory) (a : Nat) (v : Word) (h : m.wf = true) (ha : a < 4294967296) :
    (m.setWord a v).wf = true :=
  Memory.wf_set _ _ _ (Memory.wf_set _ _ _ h (by omega)) (by omega)

theorem Memory.get_of_lt (m : Memory) (a : Nat) : ∀ lo, a < lo → m.wfFrom lo = true →
    m.get a = Config.unwrittenByte := by
  induction m with
  | nil => intros; rfl
  | cons e m ih =>
    obtain ⟨k, v⟩ := e
    intro lo h hm
    rw [Memory.wfFrom_cons] at hm
    simp only [Memory.get]
    rw [if_neg (by omega)]
    exact ih (k + 1) (by omega) hm.2.2.2

theorem Memory.ext_from (m n : Memory) : ∀ lo, m.wfFrom lo = true → n.wfFrom lo = true →
    (∀ a, m.get a = n.get a) → m = n := by
  induction m generalizing n with
  | nil =>
    intro lo _ hn h
    cases n with
    | nil => rfl
    | cons e n =>
      obtain ⟨k, v⟩ := e
      rw [Memory.wfFrom_cons] at hn
      have := h k
      simp [Memory.get] at this
      exact absurd this.symm hn.2.2.1
  | cons e m ih =>
    obtain ⟨k, v⟩ := e
    intro lo hm hn h
    rw [Memory.wfFrom_cons] at hm
    cases n with
    | nil =>
      have := h k
      simp [Memory.get] at this
      exact absurd this hm.2.2.1
    | cons e' n =>
      obtain ⟨k', v'⟩ := e'
      rw [Memory.wfFrom_cons] at hn
      have hkk : k = k' := by
        rcases Nat.lt_trichotomy k k' with hlt | heq | hgt
        · have := h k
          simp only [Memory.get, if_true] at this
          rw [if_neg (by omega), Memory.get_of_lt n k (k' + 1) (by omega) hn.2.2.2] at this
          exact absurd this hm.2.2.1
        · exact heq
        · have := h k'
          simp only [Memory.get, if_true] at this
          rw [if_neg (by omega), Memory.get_of_lt m k' (k + 1) (by omega) hm.2.2.2] at this
          exact absurd this.symm hn.2.2.1
      subst hkk
      have hv : v = v' := by simpa [Memory.get] using h k
      subst hv
      congr 1
      apply ih n (k + 1) hm.2.2.2 hn.2.2.2
      intro a
      by_cases ha : a = k
      · subst ha
        rw [Memory.get_of_lt m a (a + 1) (by omega) hm.2.2.2, Memory.get_of_lt n a (a + 1) (by omega) hn.2.2.2]
      · have := h a
        simp only [Memory.get] at this
        rwa [if_neg (by omega), if_neg (by omega)] at this

/-- Canonical memories that read the same are the same data. -/
theorem Memory.ext_of_wf (m n : Memory) (hm : m.wf = true) (hn : n.wf = true) (h : ∀ a, m.get a = n.get a) : m = n :=
  Memory.ext_from m n 0 hm hn h

/-! ## Words -/

/-- A byte outside a written word stays. -/
theorem Memory.get_setWord_ne (m : Memory) (a c : Nat) (v : Word) (h0 : c ≠ 2 * a) (h1 : c ≠ 2 * a + 1) :
    (m.setWord a v).get c = m.get c := by
  unfold Memory.setWord
  rw [Memory.get_set_ne _ _ _ _ h1, Memory.get_set_ne _ _ _ _ h0]

/-- Memory can list any content of data space, so the content at power-up is any value (R583, U7). -/
theorem Memory.exists_content (f : Nat → Byte) :
    ∀ n, n ≤ 8589934592 → ∃ m : Memory, m.wf = true ∧ ∀ k < n, m.get k = f k := by
  intro n
  induction n with
  | zero => exact fun _ => ⟨[], rfl, fun k hk => absurd hk (Nat.not_lt_zero k)⟩
  | succ n ih =>
    intro hn
    obtain ⟨m, hm, hf⟩ := ih (by omega)
    refine ⟨m.set n (f n), Memory.wf_set m n (f n) hm (by omega), fun k hk => ?_⟩
    by_cases h : k = n
    · rw [h, Memory.get_set_self]
    · rw [Memory.get_set_ne _ _ _ _ h, hf k (by omega)]

theorem append_bytes (v : Word) : (v.extractLsb' 8 8 ++ v.extractLsb' 0 8 : BitVec (8 + 8)) = v := by
  have h := BitVec.toNat_append (v.extractLsb' 8 8) (v.extractLsb' 0 8)
  rw [← Nat.shiftLeft_add_eq_or_of_lt (by omega), Nat.shiftLeft_eq] at h
  apply BitVec.eq_of_toNat_eq
  have := v.isLt
  refine h.trans ?_
  simp [Nat.shiftRight_eq_div_pow]
  omega

/-- A word read where it was written. -/
@[simp] theorem Memory.word_setWord_self (m : Memory) (a : Nat) (v : Word) : (m.setWord a v).word a = v := by
  unfold Memory.word Memory.setWord
  rw [Memory.get_set_self, Memory.get_set_ne _ _ _ _ (by omega), Memory.get_set_self]
  exact append_bytes v

/-- A write leaves every other word alone. -/
theorem Memory.word_setWord_ne (m : Memory) (a c : Nat) (v : Word) (h : c ≠ a) :
    (m.setWord a v).word c = m.word c := by
  unfold Memory.word
  rw [Memory.get_setWord_ne _ _ _ _ (by omega) (by omega), Memory.get_setWord_ne _ _ _ _ (by omega) (by omega)]

/-- An empty memory reads as nothing written. -/
@[simp] theorem Memory.get_nil (a : Nat) : Memory.get [] a = Config.unwrittenByte := rfl

/-- The canonical form of the empty memory. -/
@[simp] theorem Memory.wf_nil : Memory.wf [] = true := rfl

end Sys2Proof.Machine
end

