-- ==== Sys2Proof/Laws/State.lean ====
section
/-! SUPPORT. One lemma for each field of State and each named update, so that no proof unfolds a record update. -/

namespace Sys2Proof.Machine

/-! ### `State.setXar` -/

@[simp] theorem State.setXar_acc (s : State) (n : XReg) (v : Long) : (s.setXar n v).acc = s.acc := rfl
@[simp] theorem State.setXar_p (s : State) (n : XReg) (v : Long) : (s.setXar n v).p = s.p := rfl
@[simp] theorem State.setXar_xt (s : State) (n : XReg) (v : Long) : (s.setXar n v).xt = s.xt := rfl
@[simp] theorem State.setXar_xar (s : State) (n : XReg) (v : Long) : (s.setXar n v).xar = s.xar.set n v := rfl
@[simp] theorem State.setXar_dp (s : State) (n : XReg) (v : Long) : (s.setXar n v).dp = s.dp := rfl
@[simp] theorem State.setXar_sp (s : State) (n : XReg) (v : Long) : (s.setXar n v).sp = s.sp := rfl
@[simp] theorem State.setXar_pc (s : State) (n : XReg) (v : Long) : (s.setXar n v).pc = s.pc := rfl
@[simp] theorem State.setXar_rpc (s : State) (n : XReg) (v : Long) : (s.setXar n v).rpc = s.rpc := rfl
@[simp] theorem State.setXar_st0 (s : State) (n : XReg) (v : Long) : (s.setXar n v).st0 = s.st0 := rfl
@[simp] theorem State.setXar_st1 (s : State) (n : XReg) (v : Long) : (s.setXar n v).st1 = s.st1 := rfl
@[simp] theorem State.setXar_ifr (s : State) (n : XReg) (v : Long) : (s.setXar n v).ifr = s.ifr := rfl
@[simp] theorem State.setXar_ier (s : State) (n : XReg) (v : Long) : (s.setXar n v).ier = s.ier := rfl
@[simp] theorem State.setXar_dbgier (s : State) (n : XReg) (v : Long) : (s.setXar n v).dbgier = s.dbgier := rfl
@[simp] theorem State.setXar_rptc (s : State) (n : XReg) (v : Long) : (s.setXar n v).rptc = s.rptc := rfl
@[simp] theorem State.setXar_repeating (s : State) (n : XReg) (v : Long) : (s.setXar n v).repeating = s.repeating := rfl
@[simp] theorem State.setXar_rptAddr (s : State) (n : XReg) (v : Long) : (s.setXar n v).rptAddr = s.rptAddr := rfl
@[simp] theorem State.setXar_dbgstat (s : State) (n : XReg) (v : Long) : (s.setXar n v).dbgstat = s.dbgstat := rfl
@[simp] theorem State.setXar_nmiPending (s : State) (n : XReg) (v : Long) : (s.setXar n v).nmiPending = s.nmiPending := rfl
@[simp] theorem State.setXar_resetRequest (s : State) (n : XReg) (v : Long) : (s.setXar n v).resetRequest = s.resetRequest := rfl
@[simp] theorem State.setXar_isrStart (s : State) (n : XReg) (v : Long) : (s.setXar n v).isrStart = s.isrStart := rfl
@[simp] theorem State.setXar_acks (s : State) (n : XReg) (v : Long) : (s.setXar n v).acks = s.acks := rfl
@[simp] theorem State.setXar_mem (s : State) (n : XReg) (v : Long) : (s.setXar n v).mem = s.mem := rfl
@[simp] theorem State.setXar_stores (s : State) (n : XReg) (v : Long) : (s.setXar n v).stores = s.stores := rfl
@[simp] theorem State.setXar_reads (s : State) (n : XReg) (v : Long) : (s.setXar n v).reads = s.reads := rfl
@[simp] theorem State.setXar_icount (s : State) (n : XReg) (v : Long) : (s.setXar n v).icount = s.icount := rfl

/-! ### `State.setAr` -/

@[simp] theorem State.setAr_acc (s : State) (n : XReg) (v : Word) : (s.setAr n v).acc = s.acc := rfl
@[simp] theorem State.setAr_p (s : State) (n : XReg) (v : Word) : (s.setAr n v).p = s.p := rfl
@[simp] theorem State.setAr_xt (s : State) (n : XReg) (v : Word) : (s.setAr n v).xt = s.xt := rfl
@[simp] theorem State.setAr_xar (s : State) (n : XReg) (v : Word) : (s.setAr n v).xar = s.xar.set n (longOf (highWord (s.xar.get n)) v) := rfl
@[simp] theorem State.setAr_dp (s : State) (n : XReg) (v : Word) : (s.setAr n v).dp = s.dp := rfl
@[simp] theorem State.setAr_sp (s : State) (n : XReg) (v : Word) : (s.setAr n v).sp = s.sp := rfl
@[simp] theorem State.setAr_pc (s : State) (n : XReg) (v : Word) : (s.setAr n v).pc = s.pc := rfl
@[simp] theorem State.setAr_rpc (s : State) (n : XReg) (v : Word) : (s.setAr n v).rpc = s.rpc := rfl
@[simp] theorem State.setAr_st0 (s : State) (n : XReg) (v : Word) : (s.setAr n v).st0 = s.st0 := rfl
@[simp] theorem State.setAr_st1 (s : State) (n : XReg) (v : Word) : (s.setAr n v).st1 = s.st1 := rfl
@[simp] theorem State.setAr_ifr (s : State) (n : XReg) (v : Word) : (s.setAr n v).ifr = s.ifr := rfl
@[simp] theorem State.setAr_ier (s : State) (n : XReg) (v : Word) : (s.setAr n v).ier = s.ier := rfl
@[simp] theorem State.setAr_dbgier (s : State) (n : XReg) (v : Word) : (s.setAr n v).dbgier = s.dbgier := rfl
@[simp] theorem State.setAr_rptc (s : State) (n : XReg) (v : Word) : (s.setAr n v).rptc = s.rptc := rfl
@[simp] theorem State.setAr_repeating (s : State) (n : XReg) (v : Word) : (s.setAr n v).repeating = s.repeating := rfl
@[simp] theorem State.setAr_rptAddr (s : State) (n : XReg) (v : Word) : (s.setAr n v).rptAddr = s.rptAddr := rfl
@[simp] theorem State.setAr_dbgstat (s : State) (n : XReg) (v : Word) : (s.setAr n v).dbgstat = s.dbgstat := rfl
@[simp] theorem State.setAr_nmiPending (s : State) (n : XReg) (v : Word) : (s.setAr n v).nmiPending = s.nmiPending := rfl
@[simp] theorem State.setAr_resetRequest (s : State) (n : XReg) (v : Word) : (s.setAr n v).resetRequest = s.resetRequest := rfl
@[simp] theorem State.setAr_isrStart (s : State) (n : XReg) (v : Word) : (s.setAr n v).isrStart = s.isrStart := rfl
@[simp] theorem State.setAr_acks (s : State) (n : XReg) (v : Word) : (s.setAr n v).acks = s.acks := rfl
@[simp] theorem State.setAr_mem (s : State) (n : XReg) (v : Word) : (s.setAr n v).mem = s.mem := rfl
@[simp] theorem State.setAr_stores (s : State) (n : XReg) (v : Word) : (s.setAr n v).stores = s.stores := rfl
@[simp] theorem State.setAr_reads (s : State) (n : XReg) (v : Word) : (s.setAr n v).reads = s.reads := rfl
@[simp] theorem State.setAr_icount (s : State) (n : XReg) (v : Word) : (s.setAr n v).icount = s.icount := rfl

/-! ### `State.setArp` -/

@[simp] theorem State.setArp_acc (s : State) (n : XReg) : (s.setArp n).acc = s.acc := rfl
@[simp] theorem State.setArp_p (s : State) (n : XReg) : (s.setArp n).p = s.p := rfl
@[simp] theorem State.setArp_xt (s : State) (n : XReg) : (s.setArp n).xt = s.xt := rfl
@[simp] theorem State.setArp_xar (s : State) (n : XReg) : (s.setArp n).xar = s.xar := rfl
@[simp] theorem State.setArp_dp (s : State) (n : XReg) : (s.setArp n).dp = s.dp := rfl
@[simp] theorem State.setArp_sp (s : State) (n : XReg) : (s.setArp n).sp = s.sp := rfl
@[simp] theorem State.setArp_pc (s : State) (n : XReg) : (s.setArp n).pc = s.pc := rfl
@[simp] theorem State.setArp_rpc (s : State) (n : XReg) : (s.setArp n).rpc = s.rpc := rfl
@[simp] theorem State.setArp_st0 (s : State) (n : XReg) : (s.setArp n).st0 = s.st0 := rfl
@[simp] theorem State.setArp_st1 (s : State) (n : XReg) : (s.setArp n).st1 = { s.st1 with arp := n } := rfl
@[simp] theorem State.setArp_ifr (s : State) (n : XReg) : (s.setArp n).ifr = s.ifr := rfl
@[simp] theorem State.setArp_ier (s : State) (n : XReg) : (s.setArp n).ier = s.ier := rfl
@[simp] theorem State.setArp_dbgier (s : State) (n : XReg) : (s.setArp n).dbgier = s.dbgier := rfl
@[simp] theorem State.setArp_rptc (s : State) (n : XReg) : (s.setArp n).rptc = s.rptc := rfl
@[simp] theorem State.setArp_repeating (s : State) (n : XReg) : (s.setArp n).repeating = s.repeating := rfl
@[simp] theorem State.setArp_rptAddr (s : State) (n : XReg) : (s.setArp n).rptAddr = s.rptAddr := rfl
@[simp] theorem State.setArp_dbgstat (s : State) (n : XReg) : (s.setArp n).dbgstat = s.dbgstat := rfl
@[simp] theorem State.setArp_nmiPending (s : State) (n : XReg) : (s.setArp n).nmiPending = s.nmiPending := rfl
@[simp] theorem State.setArp_resetRequest (s : State) (n : XReg) : (s.setArp n).resetRequest = s.resetRequest := rfl
@[simp] theorem State.setArp_isrStart (s : State) (n : XReg) : (s.setArp n).isrStart = s.isrStart := rfl
@[simp] theorem State.setArp_acks (s : State) (n : XReg) : (s.setArp n).acks = s.acks := rfl
@[simp] theorem State.setArp_mem (s : State) (n : XReg) : (s.setArp n).mem = s.mem := rfl
@[simp] theorem State.setArp_stores (s : State) (n : XReg) : (s.setArp n).stores = s.stores := rfl
@[simp] theorem State.setArp_reads (s : State) (n : XReg) : (s.setArp n).reads = s.reads := rfl
@[simp] theorem State.setArp_icount (s : State) (n : XReg) : (s.setArp n).icount = s.icount := rfl

/-! ### `State.setT` -/

@[simp] theorem State.setT_acc (s : State) (v : Word) : (s.setT v).acc = s.acc := rfl
@[simp] theorem State.setT_p (s : State) (v : Word) : (s.setT v).p = s.p := rfl
@[simp] theorem State.setT_xt (s : State) (v : Word) : (s.setT v).xt = longOf v (lowWord s.xt) := rfl
@[simp] theorem State.setT_xar (s : State) (v : Word) : (s.setT v).xar = s.xar := rfl
@[simp] theorem State.setT_dp (s : State) (v : Word) : (s.setT v).dp = s.dp := rfl
@[simp] theorem State.setT_sp (s : State) (v : Word) : (s.setT v).sp = s.sp := rfl
@[simp] theorem State.setT_pc (s : State) (v : Word) : (s.setT v).pc = s.pc := rfl
@[simp] theorem State.setT_rpc (s : State) (v : Word) : (s.setT v).rpc = s.rpc := rfl
@[simp] theorem State.setT_st0 (s : State) (v : Word) : (s.setT v).st0 = s.st0 := rfl
@[simp] theorem State.setT_st1 (s : State) (v : Word) : (s.setT v).st1 = s.st1 := rfl
@[simp] theorem State.setT_ifr (s : State) (v : Word) : (s.setT v).ifr = s.ifr := rfl
@[simp] theorem State.setT_ier (s : State) (v : Word) : (s.setT v).ier = s.ier := rfl
@[simp] theorem State.setT_dbgier (s : State) (v : Word) : (s.setT v).dbgier = s.dbgier := rfl
@[simp] theorem State.setT_rptc (s : State) (v : Word) : (s.setT v).rptc = s.rptc := rfl
@[simp] theorem State.setT_repeating (s : State) (v : Word) : (s.setT v).repeating = s.repeating := rfl
@[simp] theorem State.setT_rptAddr (s : State) (v : Word) : (s.setT v).rptAddr = s.rptAddr := rfl
@[simp] theorem State.setT_dbgstat (s : State) (v : Word) : (s.setT v).dbgstat = s.dbgstat := rfl
@[simp] theorem State.setT_nmiPending (s : State) (v : Word) : (s.setT v).nmiPending = s.nmiPending := rfl
@[simp] theorem State.setT_resetRequest (s : State) (v : Word) : (s.setT v).resetRequest = s.resetRequest := rfl
@[simp] theorem State.setT_isrStart (s : State) (v : Word) : (s.setT v).isrStart = s.isrStart := rfl
@[simp] theorem State.setT_acks (s : State) (v : Word) : (s.setT v).acks = s.acks := rfl
@[simp] theorem State.setT_mem (s : State) (v : Word) : (s.setT v).mem = s.mem := rfl
@[simp] theorem State.setT_stores (s : State) (v : Word) : (s.setT v).stores = s.stores := rfl
@[simp] theorem State.setT_reads (s : State) (v : Word) : (s.setT v).reads = s.reads := rfl
@[simp] theorem State.setT_icount (s : State) (v : Word) : (s.setT v).icount = s.icount := rfl

/-! ### `State.setAx` -/

@[simp] theorem State.setAx_p (s : State) (h : AccHalf) (v : Word) : (s.setAx h v).p = s.p := by cases h <;> rfl
@[simp] theorem State.setAx_xt (s : State) (h : AccHalf) (v : Word) : (s.setAx h v).xt = s.xt := by cases h <;> rfl
@[simp] theorem State.setAx_xar (s : State) (h : AccHalf) (v : Word) : (s.setAx h v).xar = s.xar := by cases h <;> rfl
@[simp] theorem State.setAx_dp (s : State) (h : AccHalf) (v : Word) : (s.setAx h v).dp = s.dp := by cases h <;> rfl
@[simp] theorem State.setAx_sp (s : State) (h : AccHalf) (v : Word) : (s.setAx h v).sp = s.sp := by cases h <;> rfl
@[simp] theorem State.setAx_pc (s : State) (h : AccHalf) (v : Word) : (s.setAx h v).pc = s.pc := by cases h <;> rfl
@[simp] theorem State.setAx_rpc (s : State) (h : AccHalf) (v : Word) : (s.setAx h v).rpc = s.rpc := by cases h <;> rfl
@[simp] theorem State.setAx_st0 (s : State) (h : AccHalf) (v : Word) : (s.setAx h v).st0 = s.st0 := by cases h <;> rfl
@[simp] theorem State.setAx_st1 (s : State) (h : AccHalf) (v : Word) : (s.setAx h v).st1 = s.st1 := by cases h <;> rfl
@[simp] theorem State.setAx_ifr (s : State) (h : AccHalf) (v : Word) : (s.setAx h v).ifr = s.ifr := by cases h <;> rfl
@[simp] theorem State.setAx_ier (s : State) (h : AccHalf) (v : Word) : (s.setAx h v).ier = s.ier := by cases h <;> rfl
@[simp] theorem State.setAx_dbgier (s : State) (h : AccHalf) (v : Word) : (s.setAx h v).dbgier = s.dbgier := by cases h <;> rfl
@[simp] theorem State.setAx_rptc (s : State) (h : AccHalf) (v : Word) : (s.setAx h v).rptc = s.rptc := by cases h <;> rfl
@[simp] theorem State.setAx_repeating (s : State) (h : AccHalf) (v : Word) : (s.setAx h v).repeating = s.repeating := by cases h <;> rfl
@[simp] theorem State.setAx_rptAddr (s : State) (h : AccHalf) (v : Word) : (s.setAx h v).rptAddr = s.rptAddr := by cases h <;> rfl
@[simp] theorem State.setAx_dbgstat (s : State) (h : AccHalf) (v : Word) : (s.setAx h v).dbgstat = s.dbgstat := by cases h <;> rfl
@[simp] theorem State.setAx_nmiPending (s : State) (h : AccHalf) (v : Word) : (s.setAx h v).nmiPending = s.nmiPending := by cases h <;> rfl
@[simp] theorem State.setAx_resetRequest (s : State) (h : AccHalf) (v : Word) : (s.setAx h v).resetRequest = s.resetRequest := by cases h <;> rfl
@[simp] theorem State.setAx_isrStart (s : State) (h : AccHalf) (v : Word) : (s.setAx h v).isrStart = s.isrStart := by cases h <;> rfl
@[simp] theorem State.setAx_acks (s : State) (h : AccHalf) (v : Word) : (s.setAx h v).acks = s.acks := by cases h <;> rfl
@[simp] theorem State.setAx_mem (s : State) (h : AccHalf) (v : Word) : (s.setAx h v).mem = s.mem := by cases h <;> rfl
@[simp] theorem State.setAx_stores (s : State) (h : AccHalf) (v : Word) : (s.setAx h v).stores = s.stores := by cases h <;> rfl
@[simp] theorem State.setAx_reads (s : State) (h : AccHalf) (v : Word) : (s.setAx h v).reads = s.reads := by cases h <;> rfl
@[simp] theorem State.setAx_icount (s : State) (h : AccHalf) (v : Word) : (s.setAx h v).icount = s.icount := by cases h <;> rfl

/-! ### `State.setAcc` -/

@[simp] theorem State.setAcc_acc (s : State) (r : Long × St0) : (s.setAcc r).acc = r.1 := rfl
@[simp] theorem State.setAcc_p (s : State) (r : Long × St0) : (s.setAcc r).p = s.p := rfl
@[simp] theorem State.setAcc_xt (s : State) (r : Long × St0) : (s.setAcc r).xt = s.xt := rfl
@[simp] theorem State.setAcc_xar (s : State) (r : Long × St0) : (s.setAcc r).xar = s.xar := rfl
@[simp] theorem State.setAcc_dp (s : State) (r : Long × St0) : (s.setAcc r).dp = s.dp := rfl
@[simp] theorem State.setAcc_sp (s : State) (r : Long × St0) : (s.setAcc r).sp = s.sp := rfl
@[simp] theorem State.setAcc_pc (s : State) (r : Long × St0) : (s.setAcc r).pc = s.pc := rfl
@[simp] theorem State.setAcc_rpc (s : State) (r : Long × St0) : (s.setAcc r).rpc = s.rpc := rfl
@[simp] theorem State.setAcc_st0 (s : State) (r : Long × St0) : (s.setAcc r).st0 = r.2 := rfl
@[simp] theorem State.setAcc_st1 (s : State) (r : Long × St0) : (s.setAcc r).st1 = s.st1 := rfl
@[simp] theorem State.setAcc_ifr (s : State) (r : Long × St0) : (s.setAcc r).ifr = s.ifr := rfl
@[simp] theorem State.setAcc_ier (s : State) (r : Long × St0) : (s.setAcc r).ier = s.ier := rfl
@[simp] theorem State.setAcc_dbgier (s : State) (r : Long × St0) : (s.setAcc r).dbgier = s.dbgier := rfl
@[simp] theorem State.setAcc_rptc (s : State) (r : Long × St0) : (s.setAcc r).rptc = s.rptc := rfl
@[simp] theorem State.setAcc_repeating (s : State) (r : Long × St0) : (s.setAcc r).repeating = s.repeating := rfl
@[simp] theorem State.setAcc_rptAddr (s : State) (r : Long × St0) : (s.setAcc r).rptAddr = s.rptAddr := rfl
@[simp] theorem State.setAcc_dbgstat (s : State) (r : Long × St0) : (s.setAcc r).dbgstat = s.dbgstat := rfl
@[simp] theorem State.setAcc_nmiPending (s : State) (r : Long × St0) : (s.setAcc r).nmiPending = s.nmiPending := rfl
@[simp] theorem State.setAcc_resetRequest (s : State) (r : Long × St0) : (s.setAcc r).resetRequest = s.resetRequest := rfl
@[simp] theorem State.setAcc_isrStart (s : State) (r : Long × St0) : (s.setAcc r).isrStart = s.isrStart := rfl
@[simp] theorem State.setAcc_acks (s : State) (r : Long × St0) : (s.setAcc r).acks = s.acks := rfl
@[simp] theorem State.setAcc_mem (s : State) (r : Long × St0) : (s.setAcc r).mem = s.mem := rfl
@[simp] theorem State.setAcc_stores (s : State) (r : Long × St0) : (s.setAcc r).stores = s.stores := rfl
@[simp] theorem State.setAcc_reads (s : State) (r : Long × St0) : (s.setAcc r).reads = s.reads := rfl
@[simp] theorem State.setAcc_icount (s : State) (r : Long × St0) : (s.setAcc r).icount = s.icount := rfl

/-! ### `State.setAccP` -/

@[simp] theorem State.setAccP_acc (s : State) (x : Quad) : (s.setAccP x).acc = x.extractLsb' 32 32 := rfl
@[simp] theorem State.setAccP_p (s : State) (x : Quad) : (s.setAccP x).p = x.extractLsb' 0 32 := rfl
@[simp] theorem State.setAccP_xt (s : State) (x : Quad) : (s.setAccP x).xt = s.xt := rfl
@[simp] theorem State.setAccP_xar (s : State) (x : Quad) : (s.setAccP x).xar = s.xar := rfl
@[simp] theorem State.setAccP_dp (s : State) (x : Quad) : (s.setAccP x).dp = s.dp := rfl
@[simp] theorem State.setAccP_sp (s : State) (x : Quad) : (s.setAccP x).sp = s.sp := rfl
@[simp] theorem State.setAccP_pc (s : State) (x : Quad) : (s.setAccP x).pc = s.pc := rfl
@[simp] theorem State.setAccP_rpc (s : State) (x : Quad) : (s.setAccP x).rpc = s.rpc := rfl
@[simp] theorem State.setAccP_st0 (s : State) (x : Quad) : (s.setAccP x).st0 = s.st0 := rfl
@[simp] theorem State.setAccP_st1 (s : State) (x : Quad) : (s.setAccP x).st1 = s.st1 := rfl
@[simp] theorem State.setAccP_ifr (s : State) (x : Quad) : (s.setAccP x).ifr = s.ifr := rfl
@[simp] theorem State.setAccP_ier (s : State) (x : Quad) : (s.setAccP x).ier = s.ier := rfl
@[simp] theorem State.setAccP_dbgier (s : State) (x : Quad) : (s.setAccP x).dbgier = s.dbgier := rfl
@[simp] theorem State.setAccP_rptc (s : State) (x : Quad) : (s.setAccP x).rptc = s.rptc := rfl
@[simp] theorem State.setAccP_repeating (s : State) (x : Quad) : (s.setAccP x).repeating = s.repeating := rfl
@[simp] theorem State.setAccP_rptAddr (s : State) (x : Quad) : (s.setAccP x).rptAddr = s.rptAddr := rfl
@[simp] theorem State.setAccP_dbgstat (s : State) (x : Quad) : (s.setAccP x).dbgstat = s.dbgstat := rfl
@[simp] theorem State.setAccP_nmiPending (s : State) (x : Quad) : (s.setAccP x).nmiPending = s.nmiPending := rfl
@[simp] theorem State.setAccP_resetRequest (s : State) (x : Quad) : (s.setAccP x).resetRequest = s.resetRequest := rfl
@[simp] theorem State.setAccP_isrStart (s : State) (x : Quad) : (s.setAccP x).isrStart = s.isrStart := rfl
@[simp] theorem State.setAccP_acks (s : State) (x : Quad) : (s.setAccP x).acks = s.acks := rfl
@[simp] theorem State.setAccP_mem (s : State) (x : Quad) : (s.setAccP x).mem = s.mem := rfl
@[simp] theorem State.setAccP_stores (s : State) (x : Quad) : (s.setAccP x).stores = s.stores := rfl
@[simp] theorem State.setAccP_reads (s : State) (x : Quad) : (s.setAccP x).reads = s.reads := rfl
@[simp] theorem State.setAccP_icount (s : State) (x : Quad) : (s.setAccP x).icount = s.icount := rfl

/-! ### `State.setPF` -/

@[simp] theorem State.setPF_acc (s : State) (r : Long × St0) : (s.setPF r).acc = s.acc := rfl
@[simp] theorem State.setPF_p (s : State) (r : Long × St0) : (s.setPF r).p = r.1 := rfl
@[simp] theorem State.setPF_xt (s : State) (r : Long × St0) : (s.setPF r).xt = s.xt := rfl
@[simp] theorem State.setPF_xar (s : State) (r : Long × St0) : (s.setPF r).xar = s.xar := rfl
@[simp] theorem State.setPF_dp (s : State) (r : Long × St0) : (s.setPF r).dp = s.dp := rfl
@[simp] theorem State.setPF_sp (s : State) (r : Long × St0) : (s.setPF r).sp = s.sp := rfl
@[simp] theorem State.setPF_pc (s : State) (r : Long × St0) : (s.setPF r).pc = s.pc := rfl
@[simp] theorem State.setPF_rpc (s : State) (r : Long × St0) : (s.setPF r).rpc = s.rpc := rfl
@[simp] theorem State.setPF_st0 (s : State) (r : Long × St0) : (s.setPF r).st0 = r.2 := rfl
@[simp] theorem State.setPF_st1 (s : State) (r : Long × St0) : (s.setPF r).st1 = s.st1 := rfl
@[simp] theorem State.setPF_ifr (s : State) (r : Long × St0) : (s.setPF r).ifr = s.ifr := rfl
@[simp] theorem State.setPF_ier (s : State) (r : Long × St0) : (s.setPF r).ier = s.ier := rfl
@[simp] theorem State.setPF_dbgier (s : State) (r : Long × St0) : (s.setPF r).dbgier = s.dbgier := rfl
@[simp] theorem State.setPF_rptc (s : State) (r : Long × St0) : (s.setPF r).rptc = s.rptc := rfl
@[simp] theorem State.setPF_repeating (s : State) (r : Long × St0) : (s.setPF r).repeating = s.repeating := rfl
@[simp] theorem State.setPF_rptAddr (s : State) (r : Long × St0) : (s.setPF r).rptAddr = s.rptAddr := rfl
@[simp] theorem State.setPF_dbgstat (s : State) (r : Long × St0) : (s.setPF r).dbgstat = s.dbgstat := rfl
@[simp] theorem State.setPF_nmiPending (s : State) (r : Long × St0) : (s.setPF r).nmiPending = s.nmiPending := rfl
@[simp] theorem State.setPF_resetRequest (s : State) (r : Long × St0) : (s.setPF r).resetRequest = s.resetRequest := rfl
@[simp] theorem State.setPF_isrStart (s : State) (r : Long × St0) : (s.setPF r).isrStart = s.isrStart := rfl
@[simp] theorem State.setPF_acks (s : State) (r : Long × St0) : (s.setPF r).acks = s.acks := rfl
@[simp] theorem State.setPF_mem (s : State) (r : Long × St0) : (s.setPF r).mem = s.mem := rfl
@[simp] theorem State.setPF_stores (s : State) (r : Long × St0) : (s.setPF r).stores = s.stores := rfl
@[simp] theorem State.setPF_reads (s : State) (r : Long × St0) : (s.setPF r).reads = s.reads := rfl
@[simp] theorem State.setPF_icount (s : State) (r : Long × St0) : (s.setPF r).icount = s.icount := rfl

/-! ### `State.setTc` -/

@[simp] theorem State.setTc_acc (s : State) (b : Bool) : (s.setTc b).acc = s.acc := rfl
@[simp] theorem State.setTc_p (s : State) (b : Bool) : (s.setTc b).p = s.p := rfl
@[simp] theorem State.setTc_xt (s : State) (b : Bool) : (s.setTc b).xt = s.xt := rfl
@[simp] theorem State.setTc_xar (s : State) (b : Bool) : (s.setTc b).xar = s.xar := rfl
@[simp] theorem State.setTc_dp (s : State) (b : Bool) : (s.setTc b).dp = s.dp := rfl
@[simp] theorem State.setTc_sp (s : State) (b : Bool) : (s.setTc b).sp = s.sp := rfl
@[simp] theorem State.setTc_pc (s : State) (b : Bool) : (s.setTc b).pc = s.pc := rfl
@[simp] theorem State.setTc_rpc (s : State) (b : Bool) : (s.setTc b).rpc = s.rpc := rfl
@[simp] theorem State.setTc_st0 (s : State) (b : Bool) : (s.setTc b).st0 = { s.st0 with tc := b } := rfl
@[simp] theorem State.setTc_st1 (s : State) (b : Bool) : (s.setTc b).st1 = s.st1 := rfl
@[simp] theorem State.setTc_ifr (s : State) (b : Bool) : (s.setTc b).ifr = s.ifr := rfl
@[simp] theorem State.setTc_ier (s : State) (b : Bool) : (s.setTc b).ier = s.ier := rfl
@[simp] theorem State.setTc_dbgier (s : State) (b : Bool) : (s.setTc b).dbgier = s.dbgier := rfl
@[simp] theorem State.setTc_rptc (s : State) (b : Bool) : (s.setTc b).rptc = s.rptc := rfl
@[simp] theorem State.setTc_repeating (s : State) (b : Bool) : (s.setTc b).repeating = s.repeating := rfl
@[simp] theorem State.setTc_rptAddr (s : State) (b : Bool) : (s.setTc b).rptAddr = s.rptAddr := rfl
@[simp] theorem State.setTc_dbgstat (s : State) (b : Bool) : (s.setTc b).dbgstat = s.dbgstat := rfl
@[simp] theorem State.setTc_nmiPending (s : State) (b : Bool) : (s.setTc b).nmiPending = s.nmiPending := rfl
@[simp] theorem State.setTc_resetRequest (s : State) (b : Bool) : (s.setTc b).resetRequest = s.resetRequest := rfl
@[simp] theorem State.setTc_isrStart (s : State) (b : Bool) : (s.setTc b).isrStart = s.isrStart := rfl
@[simp] theorem State.setTc_acks (s : State) (b : Bool) : (s.setTc b).acks = s.acks := rfl
@[simp] theorem State.setTc_mem (s : State) (b : Bool) : (s.setTc b).mem = s.mem := rfl
@[simp] theorem State.setTc_stores (s : State) (b : Bool) : (s.setTc b).stores = s.stores := rfl
@[simp] theorem State.setTc_reads (s : State) (b : Bool) : (s.setTc b).reads = s.reads := rfl
@[simp] theorem State.setTc_icount (s : State) (b : Bool) : (s.setTc b).icount = s.icount := rfl

/-! ### `State.advance` -/

@[simp] theorem State.advance_acc (s : State) (k : ProgAddr) : (s.advance k).acc = s.acc := rfl
@[simp] theorem State.advance_p (s : State) (k : ProgAddr) : (s.advance k).p = s.p := rfl
@[simp] theorem State.advance_xt (s : State) (k : ProgAddr) : (s.advance k).xt = s.xt := rfl
@[simp] theorem State.advance_xar (s : State) (k : ProgAddr) : (s.advance k).xar = s.xar := rfl
@[simp] theorem State.advance_dp (s : State) (k : ProgAddr) : (s.advance k).dp = s.dp := rfl
@[simp] theorem State.advance_sp (s : State) (k : ProgAddr) : (s.advance k).sp = s.sp := rfl
@[simp] theorem State.advance_pc (s : State) (k : ProgAddr) : (s.advance k).pc = s.pc + k := rfl
@[simp] theorem State.advance_rpc (s : State) (k : ProgAddr) : (s.advance k).rpc = s.rpc := rfl
@[simp] theorem State.advance_st0 (s : State) (k : ProgAddr) : (s.advance k).st0 = s.st0 := rfl
@[simp] theorem State.advance_st1 (s : State) (k : ProgAddr) : (s.advance k).st1 = s.st1 := rfl
@[simp] theorem State.advance_ifr (s : State) (k : ProgAddr) : (s.advance k).ifr = s.ifr := rfl
@[simp] theorem State.advance_ier (s : State) (k : ProgAddr) : (s.advance k).ier = s.ier := rfl
@[simp] theorem State.advance_dbgier (s : State) (k : ProgAddr) : (s.advance k).dbgier = s.dbgier := rfl
@[simp] theorem State.advance_rptc (s : State) (k : ProgAddr) : (s.advance k).rptc = s.rptc := rfl
@[simp] theorem State.advance_repeating (s : State) (k : ProgAddr) : (s.advance k).repeating = s.repeating := rfl
@[simp] theorem State.advance_rptAddr (s : State) (k : ProgAddr) : (s.advance k).rptAddr = s.rptAddr := rfl
@[simp] theorem State.advance_dbgstat (s : State) (k : ProgAddr) : (s.advance k).dbgstat = s.dbgstat := rfl
@[simp] theorem State.advance_nmiPending (s : State) (k : ProgAddr) : (s.advance k).nmiPending = s.nmiPending := rfl
@[simp] theorem State.advance_resetRequest (s : State) (k : ProgAddr) : (s.advance k).resetRequest = s.resetRequest := rfl
@[simp] theorem State.advance_isrStart (s : State) (k : ProgAddr) : (s.advance k).isrStart = s.isrStart := rfl
@[simp] theorem State.advance_acks (s : State) (k : ProgAddr) : (s.advance k).acks = s.acks := rfl
@[simp] theorem State.advance_mem (s : State) (k : ProgAddr) : (s.advance k).mem = s.mem := rfl
@[simp] theorem State.advance_stores (s : State) (k : ProgAddr) : (s.advance k).stores = s.stores := rfl
@[simp] theorem State.advance_reads (s : State) (k : ProgAddr) : (s.advance k).reads = s.reads := rfl
@[simp] theorem State.advance_icount (s : State) (k : ProgAddr) : (s.advance k).icount = s.icount := rfl

/-! ### `State.flush` -/

@[simp] theorem State.flush_acc (s : State) : (s.flush).acc = s.acc := rfl
@[simp] theorem State.flush_p (s : State) : (s.flush).p = s.p := rfl
@[simp] theorem State.flush_xt (s : State) : (s.flush).xt = s.xt := rfl
@[simp] theorem State.flush_xar (s : State) : (s.flush).xar = s.xar := rfl
@[simp] theorem State.flush_dp (s : State) : (s.flush).dp = s.dp := rfl
@[simp] theorem State.flush_sp (s : State) : (s.flush).sp = s.sp := rfl
@[simp] theorem State.flush_pc (s : State) : (s.flush).pc = s.pc := rfl
@[simp] theorem State.flush_rpc (s : State) : (s.flush).rpc = s.rpc := rfl
@[simp] theorem State.flush_st0 (s : State) : (s.flush).st0 = s.st0 := rfl
@[simp] theorem State.flush_st1 (s : State) : (s.flush).st1 = s.st1 := rfl
@[simp] theorem State.flush_ifr (s : State) : (s.flush).ifr = s.ifr := rfl
@[simp] theorem State.flush_ier (s : State) : (s.flush).ier = s.ier := rfl
@[simp] theorem State.flush_dbgier (s : State) : (s.flush).dbgier = s.dbgier := rfl
@[simp] theorem State.flush_rptc (s : State) : (s.flush).rptc = s.rptc := rfl
@[simp] theorem State.flush_repeating (s : State) : (s.flush).repeating = s.repeating := rfl
@[simp] theorem State.flush_rptAddr (s : State) : (s.flush).rptAddr = s.rptAddr := rfl
@[simp] theorem State.flush_dbgstat (s : State) : (s.flush).dbgstat = s.dbgstat := rfl
@[simp] theorem State.flush_nmiPending (s : State) : (s.flush).nmiPending = s.nmiPending := rfl
@[simp] theorem State.flush_resetRequest (s : State) : (s.flush).resetRequest = s.resetRequest := rfl
@[simp] theorem State.flush_isrStart (s : State) : (s.flush).isrStart = s.isrStart := rfl
@[simp] theorem State.flush_acks (s : State) : (s.flush).acks = s.acks := rfl
@[simp] theorem State.flush_mem (s : State) : (s.flush).mem = s.mem := rfl
@[simp] theorem State.flush_stores (s : State) : (s.flush).stores = [] := rfl
@[simp] theorem State.flush_reads (s : State) : (s.flush).reads = [] := rfl
@[simp] theorem State.flush_icount (s : State) : (s.flush).icount = s.icount := rfl

/-! ### `State.writeNamed` -/

@[simp] theorem State.writeNamed_acc (s : State) (m : BitVec 8) (b : Bool) : (s.writeNamed m b).acc = s.acc := rfl
@[simp] theorem State.writeNamed_p (s : State) (m : BitVec 8) (b : Bool) : (s.writeNamed m b).p = s.p := rfl
@[simp] theorem State.writeNamed_xt (s : State) (m : BitVec 8) (b : Bool) : (s.writeNamed m b).xt = s.xt := rfl
@[simp] theorem State.writeNamed_xar (s : State) (m : BitVec 8) (b : Bool) : (s.writeNamed m b).xar = s.xar := rfl
@[simp] theorem State.writeNamed_dp (s : State) (m : BitVec 8) (b : Bool) : (s.writeNamed m b).dp = s.dp := rfl
@[simp] theorem State.writeNamed_sp (s : State) (m : BitVec 8) (b : Bool) : (s.writeNamed m b).sp = s.sp := rfl
@[simp] theorem State.writeNamed_pc (s : State) (m : BitVec 8) (b : Bool) : (s.writeNamed m b).pc = s.pc := rfl
@[simp] theorem State.writeNamed_rpc (s : State) (m : BitVec 8) (b : Bool) : (s.writeNamed m b).rpc = s.rpc := rfl
@[simp] theorem State.writeNamed_st0 (s : State) (m : BitVec 8) (b : Bool) : (s.writeNamed m b).st0 = s.st0.writeNamed m b := rfl
@[simp] theorem State.writeNamed_st1 (s : State) (m : BitVec 8) (b : Bool) : (s.writeNamed m b).st1 = s.st1.writeNamed m b := rfl
@[simp] theorem State.writeNamed_ifr (s : State) (m : BitVec 8) (b : Bool) : (s.writeNamed m b).ifr = s.ifr := rfl
@[simp] theorem State.writeNamed_ier (s : State) (m : BitVec 8) (b : Bool) : (s.writeNamed m b).ier = s.ier := rfl
@[simp] theorem State.writeNamed_dbgier (s : State) (m : BitVec 8) (b : Bool) : (s.writeNamed m b).dbgier = s.dbgier := rfl
@[simp] theorem State.writeNamed_rptc (s : State) (m : BitVec 8) (b : Bool) : (s.writeNamed m b).rptc = s.rptc := rfl
@[simp] theorem State.writeNamed_repeating (s : State) (m : BitVec 8) (b : Bool) : (s.writeNamed m b).repeating = s.repeating := rfl
@[simp] theorem State.writeNamed_rptAddr (s : State) (m : BitVec 8) (b : Bool) : (s.writeNamed m b).rptAddr = s.rptAddr := rfl
@[simp] theorem State.writeNamed_dbgstat (s : State) (m : BitVec 8) (b : Bool) : (s.writeNamed m b).dbgstat = s.dbgstat := rfl
@[simp] theorem State.writeNamed_nmiPending (s : State) (m : BitVec 8) (b : Bool) : (s.writeNamed m b).nmiPending = s.nmiPending := rfl
@[simp] theorem State.writeNamed_resetRequest (s : State) (m : BitVec 8) (b : Bool) : (s.writeNamed m b).resetRequest = s.resetRequest := rfl
@[simp] theorem State.writeNamed_isrStart (s : State) (m : BitVec 8) (b : Bool) : (s.writeNamed m b).isrStart = s.isrStart := rfl
@[simp] theorem State.writeNamed_acks (s : State) (m : BitVec 8) (b : Bool) : (s.writeNamed m b).acks = s.acks := rfl
@[simp] theorem State.writeNamed_mem (s : State) (m : BitVec 8) (b : Bool) : (s.writeNamed m b).mem = s.mem := rfl
@[simp] theorem State.writeNamed_stores (s : State) (m : BitVec 8) (b : Bool) : (s.writeNamed m b).stores = s.stores := rfl
@[simp] theorem State.writeNamed_reads (s : State) (m : BitVec 8) (b : Bool) : (s.writeNamed m b).reads = s.reads := rfl
@[simp] theorem State.writeNamed_icount (s : State) (m : BitVec 8) (b : Bool) : (s.writeNamed m b).icount = s.icount := rfl

/-! ### `State.setProduct` -/

@[simp] theorem State.setProduct_acc (s : State) (a b : Word) : (s.setProduct a b).acc = s.acc := rfl
@[simp] theorem State.setProduct_p (s : State) (a b : Word) : (s.setProduct a b).p = mul16s a b := rfl
@[simp] theorem State.setProduct_xt (s : State) (a b : Word) : (s.setProduct a b).xt = s.xt := rfl
@[simp] theorem State.setProduct_xar (s : State) (a b : Word) : (s.setProduct a b).xar = s.xar := rfl
@[simp] theorem State.setProduct_dp (s : State) (a b : Word) : (s.setProduct a b).dp = s.dp := rfl
@[simp] theorem State.setProduct_sp (s : State) (a b : Word) : (s.setProduct a b).sp = s.sp := rfl
@[simp] theorem State.setProduct_pc (s : State) (a b : Word) : (s.setProduct a b).pc = s.pc := rfl
@[simp] theorem State.setProduct_rpc (s : State) (a b : Word) : (s.setProduct a b).rpc = s.rpc := rfl
@[simp] theorem State.setProduct_st0 (s : State) (a b : Word) : (s.setProduct a b).st0 = s.st0 := rfl
@[simp] theorem State.setProduct_st1 (s : State) (a b : Word) : (s.setProduct a b).st1 = s.st1 := rfl
@[simp] theorem State.setProduct_ifr (s : State) (a b : Word) : (s.setProduct a b).ifr = s.ifr := rfl
@[simp] theorem State.setProduct_ier (s : State) (a b : Word) : (s.setProduct a b).ier = s.ier := rfl
@[simp] theorem State.setProduct_dbgier (s : State) (a b : Word) : (s.setProduct a b).dbgier = s.dbgier := rfl
@[simp] theorem State.setProduct_rptc (s : State) (a b : Word) : (s.setProduct a b).rptc = s.rptc := rfl
@[simp] theorem State.setProduct_repeating (s : State) (a b : Word) : (s.setProduct a b).repeating = s.repeating := rfl
@[simp] theorem State.setProduct_rptAddr (s : State) (a b : Word) : (s.setProduct a b).rptAddr = s.rptAddr := rfl
@[simp] theorem State.setProduct_dbgstat (s : State) (a b : Word) : (s.setProduct a b).dbgstat = s.dbgstat := rfl
@[simp] theorem State.setProduct_nmiPending (s : State) (a b : Word) : (s.setProduct a b).nmiPending = s.nmiPending := rfl
@[simp] theorem State.setProduct_resetRequest (s : State) (a b : Word) : (s.setProduct a b).resetRequest = s.resetRequest := rfl
@[simp] theorem State.setProduct_isrStart (s : State) (a b : Word) : (s.setProduct a b).isrStart = s.isrStart := rfl
@[simp] theorem State.setProduct_acks (s : State) (a b : Word) : (s.setProduct a b).acks = s.acks := rfl
@[simp] theorem State.setProduct_mem (s : State) (a b : Word) : (s.setProduct a b).mem = s.mem := rfl
@[simp] theorem State.setProduct_stores (s : State) (a b : Word) : (s.setProduct a b).stores = s.stores := rfl
@[simp] theorem State.setProduct_reads (s : State) (a b : Word) : (s.setProduct a b).reads = s.reads := rfl
@[simp] theorem State.setProduct_icount (s : State) (a b : Word) : (s.setProduct a b).icount = s.icount := rfl

/-! ### `State.branchIf` -/

@[simp] theorem State.branchIf_acc (s : State) (b : Bool) (k a : ProgAddr) : (s.branchIf b k a).acc = s.acc := rfl
@[simp] theorem State.branchIf_p (s : State) (b : Bool) (k a : ProgAddr) : (s.branchIf b k a).p = s.p := rfl
@[simp] theorem State.branchIf_xt (s : State) (b : Bool) (k a : ProgAddr) : (s.branchIf b k a).xt = s.xt := rfl
@[simp] theorem State.branchIf_xar (s : State) (b : Bool) (k a : ProgAddr) : (s.branchIf b k a).xar = s.xar := rfl
@[simp] theorem State.branchIf_dp (s : State) (b : Bool) (k a : ProgAddr) : (s.branchIf b k a).dp = s.dp := rfl
@[simp] theorem State.branchIf_sp (s : State) (b : Bool) (k a : ProgAddr) : (s.branchIf b k a).sp = s.sp := rfl
@[simp] theorem State.branchIf_pc (s : State) (b : Bool) (k a : ProgAddr) : (s.branchIf b k a).pc = if b then a else s.pc + k := rfl
@[simp] theorem State.branchIf_rpc (s : State) (b : Bool) (k a : ProgAddr) : (s.branchIf b k a).rpc = s.rpc := rfl
@[simp] theorem State.branchIf_st0 (s : State) (b : Bool) (k a : ProgAddr) : (s.branchIf b k a).st0 = s.st0 := rfl
@[simp] theorem State.branchIf_st1 (s : State) (b : Bool) (k a : ProgAddr) : (s.branchIf b k a).st1 = s.st1 := rfl
@[simp] theorem State.branchIf_ifr (s : State) (b : Bool) (k a : ProgAddr) : (s.branchIf b k a).ifr = s.ifr := rfl
@[simp] theorem State.branchIf_ier (s : State) (b : Bool) (k a : ProgAddr) : (s.branchIf b k a).ier = s.ier := rfl
@[simp] theorem State.branchIf_dbgier (s : State) (b : Bool) (k a : ProgAddr) : (s.branchIf b k a).dbgier = s.dbgier := rfl
@[simp] theorem State.branchIf_rptc (s : State) (b : Bool) (k a : ProgAddr) : (s.branchIf b k a).rptc = s.rptc := rfl
@[simp] theorem State.branchIf_repeating (s : State) (b : Bool) (k a : ProgAddr) : (s.branchIf b k a).repeating = s.repeating := rfl
@[simp] theorem State.branchIf_rptAddr (s : State) (b : Bool) (k a : ProgAddr) : (s.branchIf b k a).rptAddr = s.rptAddr := rfl
@[simp] theorem State.branchIf_dbgstat (s : State) (b : Bool) (k a : ProgAddr) : (s.branchIf b k a).dbgstat = s.dbgstat := rfl
@[simp] theorem State.branchIf_nmiPending (s : State) (b : Bool) (k a : ProgAddr) : (s.branchIf b k a).nmiPending = s.nmiPending := rfl
@[simp] theorem State.branchIf_resetRequest (s : State) (b : Bool) (k a : ProgAddr) : (s.branchIf b k a).resetRequest = s.resetRequest := rfl
@[simp] theorem State.branchIf_isrStart (s : State) (b : Bool) (k a : ProgAddr) : (s.branchIf b k a).isrStart = s.isrStart := rfl
@[simp] theorem State.branchIf_acks (s : State) (b : Bool) (k a : ProgAddr) : (s.branchIf b k a).acks = s.acks := rfl
@[simp] theorem State.branchIf_mem (s : State) (b : Bool) (k a : ProgAddr) : (s.branchIf b k a).mem = s.mem := rfl
@[simp] theorem State.branchIf_stores (s : State) (b : Bool) (k a : ProgAddr) : (s.branchIf b k a).stores = s.stores := rfl
@[simp] theorem State.branchIf_reads (s : State) (b : Bool) (k a : ProgAddr) : (s.branchIf b k a).reads = s.reads := rfl
@[simp] theorem State.branchIf_icount (s : State) (b : Bool) (k a : ProgAddr) : (s.branchIf b k a).icount = s.icount := rfl

/-! ### `State.startRepeat` -/

@[simp] theorem State.startRepeat_acc (s : State) (n : Word) : (s.startRepeat n).acc = s.acc := rfl
@[simp] theorem State.startRepeat_p (s : State) (n : Word) : (s.startRepeat n).p = s.p := rfl
@[simp] theorem State.startRepeat_xt (s : State) (n : Word) : (s.startRepeat n).xt = s.xt := rfl
@[simp] theorem State.startRepeat_xar (s : State) (n : Word) : (s.startRepeat n).xar = s.xar := rfl
@[simp] theorem State.startRepeat_dp (s : State) (n : Word) : (s.startRepeat n).dp = s.dp := rfl
@[simp] theorem State.startRepeat_sp (s : State) (n : Word) : (s.startRepeat n).sp = s.sp := rfl
@[simp] theorem State.startRepeat_pc (s : State) (n : Word) : (s.startRepeat n).pc = s.pc := rfl
@[simp] theorem State.startRepeat_rpc (s : State) (n : Word) : (s.startRepeat n).rpc = s.rpc := rfl
@[simp] theorem State.startRepeat_st0 (s : State) (n : Word) : (s.startRepeat n).st0 = s.st0 := rfl
@[simp] theorem State.startRepeat_st1 (s : State) (n : Word) : (s.startRepeat n).st1 = s.st1 := rfl
@[simp] theorem State.startRepeat_ifr (s : State) (n : Word) : (s.startRepeat n).ifr = s.ifr := rfl
@[simp] theorem State.startRepeat_ier (s : State) (n : Word) : (s.startRepeat n).ier = s.ier := rfl
@[simp] theorem State.startRepeat_dbgier (s : State) (n : Word) : (s.startRepeat n).dbgier = s.dbgier := rfl
@[simp] theorem State.startRepeat_rptc (s : State) (n : Word) : (s.startRepeat n).rptc = n := rfl
@[simp] theorem State.startRepeat_repeating (s : State) (n : Word) : (s.startRepeat n).repeating = true := rfl
@[simp] theorem State.startRepeat_rptAddr (s : State) (n : Word) : (s.startRepeat n).rptAddr = none := rfl
@[simp] theorem State.startRepeat_dbgstat (s : State) (n : Word) : (s.startRepeat n).dbgstat = s.dbgstat := rfl
@[simp] theorem State.startRepeat_nmiPending (s : State) (n : Word) : (s.startRepeat n).nmiPending = s.nmiPending := rfl
@[simp] theorem State.startRepeat_resetRequest (s : State) (n : Word) : (s.startRepeat n).resetRequest = s.resetRequest := rfl
@[simp] theorem State.startRepeat_isrStart (s : State) (n : Word) : (s.startRepeat n).isrStart = s.isrStart := rfl
@[simp] theorem State.startRepeat_acks (s : State) (n : Word) : (s.startRepeat n).acks = s.acks := rfl
@[simp] theorem State.startRepeat_mem (s : State) (n : Word) : (s.startRepeat n).mem = s.mem := rfl
@[simp] theorem State.startRepeat_stores (s : State) (n : Word) : (s.startRepeat n).stores = s.stores := rfl
@[simp] theorem State.startRepeat_reads (s : State) (n : Word) : (s.startRepeat n).reads = s.reads := rfl
@[simp] theorem State.startRepeat_icount (s : State) (n : Word) : (s.startRepeat n).icount = s.icount := rfl

/-! ### `State.dropRepeat` -/

@[simp] theorem State.dropRepeat_acc (s : State) : (s.dropRepeat).acc = s.acc := rfl
@[simp] theorem State.dropRepeat_p (s : State) : (s.dropRepeat).p = s.p := rfl
@[simp] theorem State.dropRepeat_xt (s : State) : (s.dropRepeat).xt = s.xt := rfl
@[simp] theorem State.dropRepeat_xar (s : State) : (s.dropRepeat).xar = s.xar := rfl
@[simp] theorem State.dropRepeat_dp (s : State) : (s.dropRepeat).dp = s.dp := rfl
@[simp] theorem State.dropRepeat_sp (s : State) : (s.dropRepeat).sp = s.sp := rfl
@[simp] theorem State.dropRepeat_pc (s : State) : (s.dropRepeat).pc = s.pc := rfl
@[simp] theorem State.dropRepeat_rpc (s : State) : (s.dropRepeat).rpc = s.rpc := rfl
@[simp] theorem State.dropRepeat_st0 (s : State) : (s.dropRepeat).st0 = s.st0 := rfl
@[simp] theorem State.dropRepeat_st1 (s : State) : (s.dropRepeat).st1 = s.st1 := rfl
@[simp] theorem State.dropRepeat_ifr (s : State) : (s.dropRepeat).ifr = s.ifr := rfl
@[simp] theorem State.dropRepeat_ier (s : State) : (s.dropRepeat).ier = s.ier := rfl
@[simp] theorem State.dropRepeat_dbgier (s : State) : (s.dropRepeat).dbgier = s.dbgier := rfl
@[simp] theorem State.dropRepeat_rptc (s : State) : (s.dropRepeat).rptc = 0 := rfl
@[simp] theorem State.dropRepeat_repeating (s : State) : (s.dropRepeat).repeating = false := rfl
@[simp] theorem State.dropRepeat_rptAddr (s : State) : (s.dropRepeat).rptAddr = none := rfl
@[simp] theorem State.dropRepeat_dbgstat (s : State) : (s.dropRepeat).dbgstat = s.dbgstat := rfl
@[simp] theorem State.dropRepeat_nmiPending (s : State) : (s.dropRepeat).nmiPending = s.nmiPending := rfl
@[simp] theorem State.dropRepeat_resetRequest (s : State) : (s.dropRepeat).resetRequest = s.resetRequest := rfl
@[simp] theorem State.dropRepeat_isrStart (s : State) : (s.dropRepeat).isrStart = s.isrStart := rfl
@[simp] theorem State.dropRepeat_acks (s : State) : (s.dropRepeat).acks = s.acks := rfl
@[simp] theorem State.dropRepeat_mem (s : State) : (s.dropRepeat).mem = s.mem := rfl
@[simp] theorem State.dropRepeat_stores (s : State) : (s.dropRepeat).stores = s.stores := rfl
@[simp] theorem State.dropRepeat_reads (s : State) : (s.dropRepeat).reads = s.reads := rfl
@[simp] theorem State.dropRepeat_icount (s : State) : (s.dropRepeat).icount = s.icount := rfl

/-! ### `State.beginInstr` -/

@[simp] theorem State.beginInstr_acc (s : State) (ks : List AccessMark) : (s.beginInstr ks).acc = s.acc := rfl
@[simp] theorem State.beginInstr_p (s : State) (ks : List AccessMark) : (s.beginInstr ks).p = s.p := rfl
@[simp] theorem State.beginInstr_xt (s : State) (ks : List AccessMark) : (s.beginInstr ks).xt = s.xt := rfl
@[simp] theorem State.beginInstr_xar (s : State) (ks : List AccessMark) : (s.beginInstr ks).xar = s.xar := rfl
@[simp] theorem State.beginInstr_dp (s : State) (ks : List AccessMark) : (s.beginInstr ks).dp = s.dp := rfl
@[simp] theorem State.beginInstr_sp (s : State) (ks : List AccessMark) : (s.beginInstr ks).sp = s.sp := rfl
@[simp] theorem State.beginInstr_pc (s : State) (ks : List AccessMark) : (s.beginInstr ks).pc = s.pc := rfl
@[simp] theorem State.beginInstr_rpc (s : State) (ks : List AccessMark) : (s.beginInstr ks).rpc = s.rpc := rfl
@[simp] theorem State.beginInstr_st0 (s : State) (ks : List AccessMark) : (s.beginInstr ks).st0 = s.st0 := rfl
@[simp] theorem State.beginInstr_st1 (s : State) (ks : List AccessMark) : (s.beginInstr ks).st1 = { s.st1 with idlestat := false } := rfl
@[simp] theorem State.beginInstr_ifr (s : State) (ks : List AccessMark) : (s.beginInstr ks).ifr = s.ifr := rfl
@[simp] theorem State.beginInstr_ier (s : State) (ks : List AccessMark) : (s.beginInstr ks).ier = s.ier := rfl
@[simp] theorem State.beginInstr_dbgier (s : State) (ks : List AccessMark) : (s.beginInstr ks).dbgier = s.dbgier := rfl
@[simp] theorem State.beginInstr_rptc (s : State) (ks : List AccessMark) : (s.beginInstr ks).rptc = s.rptc := rfl
@[simp] theorem State.beginInstr_repeating (s : State) (ks : List AccessMark) : (s.beginInstr ks).repeating = s.repeating := rfl
@[simp] theorem State.beginInstr_rptAddr (s : State) (ks : List AccessMark) : (s.beginInstr ks).rptAddr = s.rptAddr := rfl
@[simp] theorem State.beginInstr_dbgstat (s : State) (ks : List AccessMark) : (s.beginInstr ks).dbgstat = s.dbgstat := rfl
@[simp] theorem State.beginInstr_nmiPending (s : State) (ks : List AccessMark) : (s.beginInstr ks).nmiPending = s.nmiPending := rfl
@[simp] theorem State.beginInstr_resetRequest (s : State) (ks : List AccessMark) : (s.beginInstr ks).resetRequest = s.resetRequest := rfl
@[simp] theorem State.beginInstr_isrStart (s : State) (ks : List AccessMark) : (s.beginInstr ks).isrStart = false := rfl
@[simp] theorem State.beginInstr_acks (s : State) (ks : List AccessMark) : (s.beginInstr ks).acks = s.acks := rfl
@[simp] theorem State.beginInstr_mem (s : State) (ks : List AccessMark) : (s.beginInstr ks).mem = s.mem := rfl
@[simp] theorem State.beginInstr_stores (s : State) (ks : List AccessMark) : (s.beginInstr ks).stores = s.stores := rfl
@[simp] theorem State.beginInstr_reads (s : State) (ks : List AccessMark) : (s.beginInstr ks).reads = ks := rfl
@[simp] theorem State.beginInstr_icount (s : State) (ks : List AccessMark) : (s.beginInstr ks).icount = s.icount + 1 := rfl

/-! ### Auxiliary registers -/

@[simp] theorem XarFile.get_set_self (x : XarFile) (n : XReg) (v : Long) : (x.set n v).get n = v := by
  cases n <;> rfl

theorem XarFile.get_set_ne (x : XarFile) (n k : XReg) (v : Long) (h : k ≠ n) : (x.set n v).get k = x.get k := by
  cases n <;> cases k <;> first | rfl | exact absurd rfl h

@[simp] theorem XarFile.set_get_self (x : XarFile) (n : XReg) : x.set n (x.get n) = x := by
  cases n <;> rfl

@[simp] theorem XarFile.set_set (x : XarFile) (n : XReg) (v w : Long) : (x.set n v).set n w = x.set n w := by
  cases n <;> rfl

/-! ### ACC through its halves -/

@[simp] theorem State.setAx_acc_al (s : State) (v : Word) :
    (s.setAx .al v).acc = longOf (highWord s.acc) v := rfl

@[simp] theorem State.setAx_acc_ah (s : State) (v : Word) :
    (s.setAx .ah v).acc = longOf v (lowWord s.acc) := rfl

/-! ### Halves of a long word -/

theorem longOf_toNat (a b : Word) : (longOf a b).toNat = a.toNat * 65536 + b.toNat := by
  have h := BitVec.toNat_append a b
  rw [← Nat.shiftLeft_add_eq_or_of_lt (by omega)] at h
  exact h.trans (by rw [Nat.shiftLeft_eq])

theorem lowWord_toNat (x : Long) : (lowWord x).toNat = x.toNat % 65536 := by simp [lowWord]

theorem highWord_toNat (x : Long) : (highWord x).toNat = x.toNat / 65536 := by
  have := x.isLt
  simp [highWord, Nat.shiftRight_eq_div_pow]; omega

@[simp] theorem lowWord_longOf (a b : Word) : lowWord (longOf a b) = b := by
  apply BitVec.eq_of_toNat_eq; rw [lowWord_toNat, longOf_toNat]; omega

@[simp] theorem highWord_longOf (a b : Word) : highWord (longOf a b) = a := by
  apply BitVec.eq_of_toNat_eq; rw [highWord_toNat, longOf_toNat]; omega

@[simp] theorem longOf_halves (x : Long) : longOf (highWord x) (lowWord x) = x := by
  apply BitVec.eq_of_toNat_eq; rw [longOf_toNat, highWord_toNat, lowWord_toNat]; omega

end Sys2Proof.Machine
end

