-- ==== Sys2Proof/Laws/Ops.lean ====
section
/-! SUPPORT. What each shared operation can do: when it answers, and with which state. -/

namespace Sys2Proof.Machine

/-! ## Results -/

/-- A chain of two operations answers where both do. -/
theorem Res.bind_eq_ok {α β : Type} {x : Res α} {f : α → Res β} {b : β} :
    (x >>= f) = .ok b ↔ ∃ a, x = .ok a ∧ f a = .ok b := by
  cases x with
  | error e => simp [bind, Except.bind]
  | ok a => simp [bind, Except.bind]

@[simp] theorem Res.ok_bind {α β : Type} (a : α) (f : α → Res β) : ((Except.ok a : Res α) >>= f) = f a := rfl

@[simp] theorem Res.pure_eq {α : Type} (a : α) : (pure a : Res α) = .ok a := rfl

@[simp] theorem Res.toOutcome_ok (s : State) : Res.toOutcome (.ok s) = .next s := rfl

/-- An operation's outcome is a next state where the operation answers it. -/
theorem Res.toOutcome_next {r : Res State} {t : State} : r.toOutcome = .next t ↔ r = .ok t := by
  rcases r with r | s
  · simp [Res.toOutcome]
  · simp [Res.toOutcome]

/-! ## Access rights -/

/-- Data space may be accessed outside the emulation registers, with no holes and no protected registers. -/
theorem State.dataAccess_ok_iff (s : State) (w : Nat) : s.dataAccess w = .ok () ↔ ¬ (0x800 ≤ w ∧ w ≤ 0x9FF) := by
  unfold State.dataAccess
  simp only [Config.dataHoles, Config.protectedRegs, Config.inRanges, Bool.false_and, Bool.false_eq_true, if_false]
  split <;> simp_all

/-- With no holes every word of program space may be accessed. -/
@[simp] theorem progAccess_ok (w : Nat) : progAccess w = .ok () := rfl

theorem State.inOrder_ok_iff (s : State) (w : Nat) (p : Bool) : s.inOrder w p = .ok () ↔ s.unordered w p = false := by
  unfold State.inOrder
  split <;> simp_all

theorem State.writeInOrder_ok_iff (s : State) (w : Nat) (p : Bool) :
    s.writeInOrder w p = .ok () ↔ s.unorderedWrite w p = false := by
  unfold State.writeInOrder
  split <;> simp_all

/-- No access clashes where the marks are of the same space. -/
theorem State.clash_same (s : State) (ks : List AccessMark) (w : Nat) (p : Bool) (h : ∀ k ∈ ks, k.prog = p) :
    s.clash ks w p = false := by
  unfold State.clash
  rw [List.any_eq_false]
  intro k hk; simp [h k hk]

/-- A store of another word, or through the same space, makes no other write unordered. -/
theorem State.unorderedWrite_mark (s : State) (m : Memory) (a w : Nat) (p q : Bool) (h : a ≠ w ∨ p = q) :
    ({ s with mem := m, stores := s.mark a p } : State).unorderedWrite w q = true → s.unorderedWrite w q = true := by
  unfold State.unorderedWrite State.clash State.mark
  simp only [Bool.or_eq_true, List.any_eq_true]
  rintro (⟨k, hk, hc⟩ | hr)
  · split at hk
    · rcases List.mem_cons.1 hk with rfl | hk
      · rcases h with h | h <;> simp [h] at hc
      · exact .inl ⟨k, (List.mem_filter.1 hk).1, hc⟩
    · exact .inl ⟨k, hk, hc⟩
  · exact .inr hr

/-- Access rights look at EALLOW alone. -/
theorem State.dataAccess_congr (s t : State) (w : Nat) (h : t.st1.eallow = s.st1.eallow) :
    t.dataAccess w = s.dataAccess w := by
  unfold State.dataAccess; rw [h]

/-! ## Data space -/

/-- What a 16-bit data read answers. -/
theorem readData_ok_iff (s : State) (a : DataAddr) (v : Word) :
    readData s a = .ok v ↔
      s.dataAccess a.toNat = .ok () ∧ s.unordered a.toNat false = false ∧ v = s.mem.word a.toNat := by
  unfold readData
  simp only [Res.bind_eq_ok, Res.pure_eq, Except.ok.injEq]
  constructor
  · rintro ⟨_, h1, _, h2, h3⟩; exact ⟨h1, (State.inOrder_ok_iff ..).1 h2, h3.symm⟩
  · rintro ⟨h1, h2, h3⟩; exact ⟨(), h1, (), (State.inOrder_ok_iff ..).2 h2, h3.symm⟩

/-- What a 16-bit data write answers. -/
theorem writeData_ok_iff (s : State) (a : DataAddr) (v : Word) (t : State) :
    writeData s a v = .ok t ↔
      s.dataAccess a.toNat = .ok () ∧ s.unorderedWrite a.toNat false = false ∧
        t = { s with mem := s.mem.setWord a.toNat v, stores := s.mark a.toNat false } := by
  unfold writeData
  simp only [Res.bind_eq_ok, Res.pure_eq, Except.ok.injEq]
  constructor
  · rintro ⟨_, h1, _, h2, h3⟩; exact ⟨h1, (State.writeInOrder_ok_iff ..).1 h2, h3.symm⟩
  · rintro ⟨h1, h2, h3⟩; exact ⟨(), h1, (), (State.writeInOrder_ok_iff ..).2 h2, h3.symm⟩

/-- The even address as a number. -/
theorem evenAddr_toNat {w : Nat} (a : BitVec w) : (evenAddr a).toNat = a.toNat - a.toNat % 2 := by
  unfold evenAddr
  have h := BitVec.toNat_and a (~~~(1#w))
  rw [h]
  apply Nat.eq_of_testBit_eq
  intro i
  rw [Nat.testBit_and, ← BitVec.getLsbD, ← BitVec.getLsbD, BitVec.getLsbD_not]
  have hs : a.toNat - a.toNat % 2 = 2 * (a.toNat / 2) := by omega
  rw [hs]
  cases i with
  | zero =>
    have : (2 * (a.toNat / 2)).testBit 0 = false := by simp [Nat.testBit_zero]
    rw [this]
    by_cases hw : 0 < w <;> simp [hw]
  | succ i =>
    rw [Nat.testBit_succ]
    have h2 : 2 * (a.toNat / 2) / 2 = a.toNat / 2 := by omega
    rw [h2, ← Nat.testBit_succ, ← BitVec.getLsbD]
    by_cases hi : i + 1 < w
    · simp [hi]
    · simp [hi, BitVec.getLsbD_of_ge a (i + 1) (by omega)]

/-- The word above the even address has the next number. -/
theorem evenAddr_succ_toNat (a : DataAddr) : (evenAddr a + 1).toNat = a.toNat - a.toNat % 2 + 1 := by
  have h := evenAddr_toNat a
  have := a.isLt
  rw [BitVec.toNat_add, h]
  simp
  omega

/-- What a 32-bit data read answers. -/
theorem readData32_ok_iff (s : State) (a : DataAddr) (v : Long) :
    readData32 s a = .ok v ↔
      ∃ lo hi, readData s (evenAddr a) = .ok lo ∧ readData s (evenAddr a + 1) = .ok hi ∧ v = longOf hi lo := by
  unfold readData32
  simp only [Res.bind_eq_ok, Res.pure_eq, Except.ok.injEq]
  constructor
  · rintro ⟨lo, h1, hi, h2, h3⟩; exact ⟨lo, hi, h1, h2, h3.symm⟩
  · rintro ⟨lo, hi, h1, h2, h3⟩; exact ⟨lo, h1, hi, h2, h3.symm⟩

/-- What a 32-bit data write answers. -/
theorem writeData32_ok_iff (s : State) (a : DataAddr) (v : Long) (t : State) :
    writeData32 s a v = .ok t ↔
      ∃ u, writeData s (evenAddr a) (lowWord v) = .ok u ∧ writeData u (evenAddr a + 1) (highWord v) = .ok t := by
  unfold writeData32
  simp only [Res.bind_eq_ok]

/-! ## Program space -/

/-- What a program-space read answers. -/
theorem readProg_ok_iff (s : State) (a : ProgAddr) (v : Word) :
    readProg s a = .ok v ↔ s.unordered (s.progWord a) true = false ∧ v = s.mem.word (s.progWord a) := by
  unfold readProg
  simp only [Res.bind_eq_ok, Res.pure_eq, Except.ok.injEq]
  constructor
  · rintro ⟨_, _, _, h2, h3⟩; exact ⟨(State.inOrder_ok_iff ..).1 h2, h3.symm⟩
  · rintro ⟨h2, h3⟩; exact ⟨(), rfl, (), (State.inOrder_ok_iff ..).2 h2, h3.symm⟩

/-- What a program-space write answers. -/
theorem writeProg_ok_iff (s : State) (a : ProgAddr) (v : Word) (t : State) :
    writeProg s a v = .ok t ↔
      s.unorderedWrite (s.progWord a) true = false ∧
        t = { s with mem := s.mem.setWord (s.progWord a) v, stores := s.mark (s.progWord a) true } := by
  unfold writeProg
  simp only [Res.bind_eq_ok, Res.pure_eq, Except.ok.injEq]
  constructor
  · rintro ⟨_, _, _, h2, h3⟩; exact ⟨(State.writeInOrder_ok_iff ..).1 h2, h3.symm⟩
  · rintro ⟨h2, h3⟩; exact ⟨(), rfl, (), (State.writeInOrder_ok_iff ..).2 h2, h3.symm⟩

/-- A program address names a word below 2^22. -/
theorem State.progWord_lt (s : State) (a : ProgAddr) : s.progWord a < 4194304 := by
  have := a.isLt
  unfold State.progWord
  split
  · omega
  · split
    · omega
    · split <;> omega

/-- In C28x mode program space is data space below 2^22 (R101). -/
theorem State.progWord_eq (s : State) (a : ProgAddr) (h : s.st1.m0m1map = true) : s.progWord a = a.toNat := by
  unfold State.progWord; rw [if_pos h]

/-! ## The stack -/

/-- What a 16-bit push answers. -/
theorem push16_ok_iff (s : State) (v : Word) (t : State) :
    push16 s v = .ok t ↔
      s.dataAccess s.spAddr.toNat = .ok () ∧ s.unorderedWrite s.spAddr.toNat false = false ∧
        t = { s with mem := s.mem.setWord s.spAddr.toNat v, stores := s.mark s.spAddr.toNat false, sp := s.sp + 1 } := by
  unfold push16
  simp only [Res.bind_eq_ok, writeData_ok_iff, Res.pure_eq, Except.ok.injEq]
  constructor
  · rintro ⟨u, ⟨h1, h2, rfl⟩, h3⟩; exact ⟨h1, h2, h3.symm⟩
  · rintro ⟨h1, h2, rfl⟩; exact ⟨_, ⟨h1, h2, rfl⟩, rfl⟩

/-- What a 16-bit pop answers. -/
theorem pop16_ok_iff (s : State) (v : Word) (t : State) :
    pop16 s = .ok (v, t) ↔
      t = { s with sp := s.sp - 1 } ∧ readData { s with sp := s.sp - 1 } ((s.sp - 1).zeroExtend 32) = .ok v := by
  unfold pop16
  simp only [Res.bind_eq_ok, Res.pure_eq, Except.ok.injEq, Prod.mk.injEq, State.spAddr]
  constructor
  · rintro ⟨u, h1, rfl, rfl⟩; exact ⟨rfl, h1⟩
  · rintro ⟨rfl, h1⟩; exact ⟨v, h1, rfl, rfl⟩

/-- What a 32-bit pop answers. -/
theorem pop32_ok_iff (s : State) (v : Long) (t : State) :
    pop32 s = .ok (v, t) ↔
      t = { s with sp := s.sp - 2 } ∧ readData32 { s with sp := s.sp - 2 } ((s.sp - 2).zeroExtend 32) = .ok v := by
  unfold pop32
  simp only [Res.bind_eq_ok, Res.pure_eq, Except.ok.injEq, Prod.mk.injEq, State.spAddr]
  constructor
  · rintro ⟨u, h1, rfl, rfl⟩; exact ⟨rfl, h1⟩
  · rintro ⟨rfl, h1⟩; exact ⟨v, h1, rfl, rfl⟩

/-- What a 32-bit push answers. -/
theorem push32_ok_iff (s : State) (v : Long) (t : State) :
    push32 s v = .ok t ↔ ∃ u, writeData32 s s.spAddr v = .ok u ∧ t = { u with sp := u.sp + 2 } := by
  unfold push32
  simp only [Res.bind_eq_ok, Res.pure_eq, Except.ok.injEq]
  constructor
  · rintro ⟨u, h1, h2⟩; exact ⟨u, h1, h2.symm⟩
  · rintro ⟨u, h1, h2⟩; exact ⟨u, h1, h2.symm⟩

/-- A stack address as a number. -/
theorem State.spAddr_toNat (s : State) : s.spAddr.toNat = s.sp.toNat := by
  have := s.sp.isLt
  simp only [State.spAddr, BitVec.toNat_setWidth]
  omega

/-! ## What an operation leaves: everything but memory, the marks, the pointers and the registers a `loc` field names -/

/-- The state with all of that blanked; two states with the same rest agree in every other field. -/
def State.rest (s : State) : State :=
  { s with acc := 0, p := 0, xt := 0, xar := XarFile.reset, sp := 0, st1 := { s.st1 with arp := .xar0 }, mem := [],
           stores := [], reads := [] }

theorem writeData_rest {s t : State} {a : DataAddr} {v : Word} (h : writeData s a v = .ok t) : t.rest = s.rest := by
  rw [writeData_ok_iff] at h; rw [h.2.2]; rfl

theorem writeData32_rest {s t : State} {a : DataAddr} {v : Long} (h : writeData32 s a v = .ok t) :
    t.rest = s.rest := by
  rw [writeData32_ok_iff] at h
  obtain ⟨u, h1, h2⟩ := h
  rw [writeData_rest h2, writeData_rest h1]

theorem push16_rest {s t : State} {v : Word} (h : push16 s v = .ok t) : t.rest = s.rest := by
  rw [push16_ok_iff] at h; rw [h.2.2]; rfl

theorem push32_rest {s t : State} {v : Long} (h : push32 s v = .ok t) : t.rest = s.rest := by
  rw [push32_ok_iff] at h
  obtain ⟨u, h1, rfl⟩ := h
  rw [← writeData32_rest h1]; rfl

theorem pop16_rest {s t : State} {v : Word} (h : pop16 s = .ok (v, t)) : t.rest = s.rest := by
  rw [pop16_ok_iff] at h; rw [h.1]; rfl

theorem pop32_rest {s t : State} {v : Long} (h : pop32 s = .ok (v, t)) : t.rest = s.rest := by
  rw [pop32_ok_iff] at h; rw [h.1]; rfl

theorem contextSave_rest {s t : State} {r : ProgAddr} (h : contextSave s r = .ok t) : t.rest = s.rest := by
  unfold contextSave at h
  simp only [Res.bind_eq_ok] at h
  obtain ⟨s1, h1, s2, h2, s3, h3, s4, h4, s5, h5, s6, h6, h7⟩ := h
  rw [push32_rest h7, push32_rest h6, push32_rest h5, push32_rest h4, push32_rest h3, push32_rest h2, push32_rest h1]

/-- What taking an interrupt or trap leaves besides memory, marks and SP: IFR without the line's bit, IER without it,
ST1 as the entry leaves it, the pc at the vector; everything else as before. -/
theorem enterInterrupt_rest {s t : State} {n : BitVec 5} {r : ProgAddr} {l : Option (BitVec 4)}
    (h : enterInterrupt s n r l = .ok t) :
    ∃ pc, fetchVector s n = .ok pc ∧
      t.rest = { s with ifr := s.ifr &&& ~~~(l.elim 0 lineMask), ier := s.ier &&& ~~~(l.elim 0 lineMask),
                        st1 := s.st1.entered, pc := pc, isrStart := true, repeating := false,
                        rptAddr := none }.rest := by
  unfold enterInterrupt at h
  simp only [Res.bind_eq_ok, Res.pure_eq, Except.ok.injEq] at h
  obtain ⟨pc, h1, s2, h2, rfl⟩ := h
  refine ⟨pc, h1, ?_⟩
  have h3 := contextSave_rest h2
  have hier := congrArg State.ier h3
  have hst1 := congrArg State.st1 h3
  have key : ∀ (u : State) (i : Word) (f : St1), u.rest = s2.rest → 
      ({ u with ier := i, st1 := f, pc := pc, isrStart := true, repeating := false, rptAddr := none } : State).rest
        = { u.rest with ier := i, st1 := { f with arp := .xar0 }, pc := pc, isrStart := true, repeating := false,
                        rptAddr := none } := by
    intro u i f _; rfl
  rw [key s2 _ _ rfl, h3]
  have e1 : s2.ier = s.ier := hier
  have e2 : { s2.st1.entered with arp := XReg.xar0 } = { s.st1.entered with arp := XReg.xar0 } := by
    have : ({ s2.st1 with arp := XReg.xar0 } : St1) = { s.st1 with arp := XReg.xar0 } := hst1
    have := congrArg St1.entered this
    exact this
  rw [e1, e2]
  cases l <;> rfl

end Sys2Proof.Machine
end

