-- ==== Sys2Proof/Laws/Operands.lean ====
section
/-! SUPPORT. What the operand shapes can do: when an instruction with a `loc` field runs, what its read gives and what
its store leaves, and that a selected place changes nothing but an auxiliary register, SP and ARP. -/

namespace Sys2Proof.Machine

/-! ## Running and trapping -/

/-- An instruction whose `loc` field does not trap does what its rule says. -/
theorem withLoc_run {w : Width} {loc : Loc} {s : State} {body : Res State} (h : locTraps w loc s = false) :
    withLoc w loc s body = body.toOutcome := by
  unfold withLoc; rw [h]; rfl

/-- An instruction whose `loc` field traps takes the illegal-instruction trap. -/
theorem withLoc_trap {w : Width} {loc : Loc} {s : State} {body : Res State} (h : locTraps w loc s = true) :
    withLoc w loc s body = (illegalTrap s).toOutcome := by
  unfold withLoc; rw [h]; rfl

/-- A 16-bit `loc` field traps with PAGE0 = AMODE = 1 and only then. -/
theorem locTraps_word (loc : Loc) (s : State) : locTraps .word loc s = (s.st1.page0 && s.st1.amode) := by
  unfold locTraps; rw [show (Width.word == Width.long) = false from rfl, Bool.false_and, Bool.or_false]

/-! ## Reading -/

theorem reading16_next {len : ProgAddr} {loc : Loc} {s t : State} {v : Word} {f : Word → State → State}
    (h : Reads16 s loc v t) : reading16 len loc s f = .next ((f v t).advance len) := by
  unfold reading16; rw [withLoc_run h.1, h.2]; rfl

theorem reading32_next {len : ProgAddr} {loc : Loc} {s t : State} {v : Long} {f : Long → State → State}
    (h : Reads32 s loc v t) : reading32 len loc s f = .next ((f v t).advance len) := by
  unfold reading32; rw [withLoc_run h.1, h.2]; rfl

/-! ## Storing -/

/-- A 16-bit store to an open place succeeds and leaves what `Stored16` says. -/
theorem writePlace16_stored {t : State} {pl : Place} (v : Word) (h : pl.Open16 t) :
    ∃ u, writePlace16 t pl v = .ok u ∧ Stored16 t pl v u := by
  cases pl with
  | reg r => exact ⟨_, rfl, rfl⟩
  | mem a =>
    refine ⟨_, (writeData_ok_iff ..).2 ⟨h.1, h.2, rfl⟩, rfl, Memory.word_setWord_self .., fun b h0 h1 => ?_⟩
    exact Memory.get_setWord_ne _ _ _ _ h0 h1

/-- The two words of an aligned pair are different. -/
theorem evenAddr_succ_ne (a : DataAddr) : (evenAddr a).toNat ≠ (evenAddr a + 1).toNat := by
  rw [evenAddr_toNat, evenAddr_succ_toNat]; omega

/-- A 32-bit store to an open place succeeds and leaves what `Stored32` says. -/
theorem writePlace32_stored {t : State} {pl : Place} (v : Long) (h : pl.Open32 t) :
    ∃ u, writePlace32 t pl v = .ok u ∧ Stored32 t pl v u := by
  cases pl with
  | reg r => exact ⟨_, rfl, rfl⟩
  | mem a =>
    refine ⟨_, (writeData32_ok_iff ..).2 ⟨_, (writeData_ok_iff ..).2 ⟨h.1.1, h.1.2, rfl⟩,
      (writeData_ok_iff ..).2 ⟨h.2.1, ?_, rfl⟩⟩, rfl, ?_, Memory.word_setWord_self .., fun b h0 h1 => ?_⟩
    · exact Bool.eq_false_iff.2 fun hc =>
        Bool.eq_false_iff.1 h.2.2 (State.unorderedWrite_mark _ _ _ _ _ _ (.inr rfl) hc)
    · exact (Memory.word_setWord_ne _ _ _ _ (evenAddr_succ_ne a)).trans (Memory.word_setWord_self ..)
    · refine (Memory.get_setWord_ne _ _ _ _ (by omega) (by omega)).trans ?_
      exact Memory.get_setWord_ne _ _ _ _ (by omega) (by omega)

theorem writeLoc16_eq {s t : State} {loc : Loc} {pl : Place} {v : Word} (h : resolve .word loc s = .ok (pl, t)) :
    writeLoc16 s loc v = writePlace16 t pl v := by unfold writeLoc16; rw [h]; rfl

theorem storing16_next {len : ProgAddr} {s t : State} {loc : Loc} {pl : Place} {v : Word}
    (h : Selects .word s loc pl t) (ho : pl.Open16 t) :
    ∃ u, Stored16 t pl v u ∧ storing16 len loc s v = .next (u.advance len) := by
  obtain ⟨u, h1, h2⟩ := writePlace16_stored v ho
  refine ⟨u, h2, ?_⟩
  unfold storing16
  rw [withLoc_run h.1, writeLoc16_eq h.2, h1]; rfl

theorem Place.Open16_st0 (t : State) (f : St0) (pl : Place) : pl.Open16 { t with st0 := f } ↔ pl.Open16 t := by
  cases pl <;> rfl

theorem Place.Open32_st0 (t : State) (f : St0) (pl : Place) : pl.Open32 { t with st0 := f } ↔ pl.Open32 t := by
  cases pl <;> rfl

theorem updating16_next {len : ProgAddr} {s t : State} {loc : Loc} {pl : Place} {v : Word} {f : Word → Word × St0}
    (h : Selects .word s loc pl t) (hv : readPlace16 t pl = .ok v) (ho : pl.Open16 t) :
    ∃ u, Stored16 { t with st0 := (f v).2 } pl (f v).1 u ∧ updating16 len loc s f = .next (u.advance len) := by
  obtain ⟨u, h1, h2⟩ := writePlace16_stored (t := { t with st0 := (f v).2 }) (f v).1 ((Place.Open16_st0 ..).2 ho)
  refine ⟨u, h2, ?_⟩
  unfold updating16 updateLoc16
  rw [withLoc_run h.1, h.2]
  simp only [Res.ok_bind, hv, h1, Res.pure_eq, Res.toOutcome_ok]

theorem updating32_next {len : ProgAddr} {s t : State} {loc : Loc} {pl : Place} {v : Long} {f : Long → Long × St0}
    (h : Selects .long s loc pl t) (hv : readPlace32 t pl = .ok v) (ho : pl.Open32 t) :
    ∃ u, Stored32 { t with st0 := (f v).2 } pl (f v).1 u ∧ updating32 len loc s f = .next (u.advance len) := by
  obtain ⟨u, h1, h2⟩ := writePlace32_stored (t := { t with st0 := (f v).2 }) (f v).1 ((Place.Open32_st0 ..).2 ho)
  refine ⟨u, h2, ?_⟩
  unfold updating32 updateLoc32
  rw [withLoc_run h.1, h.2]
  simp only [Res.ok_bind, hv, h1, Res.pure_eq, Res.toOutcome_ok]

/-! ## Program-space operands -/

/-- Under RPT the temporary copy of the address moves on, and nothing else changes. -/
theorem State.stepOperand_eq (s : State) (a k : ProgAddr) :
    s.stepOperand a k = { s with rptAddr := if s.repeating = true then some (a + k) else s.rptAddr } := by
  unfold State.stepOperand
  split
  · rfl
  · rfl

/-! ## The frame of a selected place -/

/-- The modes change one auxiliary register, SP and ARP at most. -/
theorem modeAddr_frame (w : Width) (m : MemMode) (s : State) :
    (modeAddr w m s).2 = { s with xar := (modeAddr w m s).2.xar, sp := (modeAddr w m s).2.sp,
                                  st1 := { s.st1 with arp := (modeAddr w m s).2.st1.arp } } ∧
      ∃ n, ∀ k, k ≠ n → (modeAddr w m s).2.xar.get k = s.xar.get k := by
  cases m
  case postInc n => exact ⟨rfl, n, fun k hk => XarFile.get_set_ne _ _ _ _ hk⟩
  case preDec n => exact ⟨rfl, n, fun k hk => XarFile.get_set_ne _ _ _ _ hk⟩
  case brInc => exact ⟨rfl, s.st1.arp, fun k hk => XarFile.get_set_ne _ _ _ _ hk⟩
  case brDec => exact ⟨rfl, s.st1.arp, fun k hk => XarFile.get_set_ne _ _ _ _ hk⟩
  case curInc => exact ⟨rfl, s.st1.arp, fun k hk => XarFile.get_set_ne _ _ _ _ hk⟩
  case curDec => exact ⟨rfl, s.st1.arp, fun k hk => XarFile.get_set_ne _ _ _ _ hk⟩
  case cur0Inc => exact ⟨rfl, s.st1.arp, fun k hk => XarFile.get_set_ne _ _ _ _ hk⟩
  case cur0Dec => exact ⟨rfl, s.st1.arp, fun k hk => XarFile.get_set_ne _ _ _ _ hk⟩
  case circ => exact ⟨rfl, .xar6, fun k hk => XarFile.get_set_ne _ _ _ _ hk⟩
  all_goals exact ⟨rfl, .xar0, fun _ _ => rfl⟩

/-- A selected place is a memory mode's address or a register, and the state after is the mode's. -/
theorem resolve_cases {w : Width} {loc : Loc} {s t : State} {pl : Place} (h : resolve w loc s = .ok (pl, t)) :
    (∃ m, s.locMode loc = .mem m ∧ pl = .mem (modeAddr w m s).1 ∧ t = (modeAddr w m s).2) ∨
      ∃ r, s.locMode loc = .reg r ∧ pl = .reg r ∧ t = s := by
  unfold resolve at h
  split at h
  · rename_i m hm
    cases h; exact .inl ⟨m, hm, rfl, rfl⟩
  · rename_i r hr
    split at h
    · cases h
    · cases h; exact .inr ⟨r, hr, rfl, rfl⟩
  · cases h

/-- What selecting a place leaves: everything but the auxiliary registers, SP and ARP. -/
theorem resolve_frame {w : Width} {loc : Loc} {s t : State} {pl : Place} (h : resolve w loc s = .ok (pl, t)) :
    t = { s with xar := t.xar, sp := t.sp, st1 := { s.st1 with arp := t.st1.arp } } := by
  rcases resolve_cases h with ⟨m, -, -, rfl⟩ | ⟨r, -, -, rfl⟩
  · exact (modeAddr_frame w m s).1
  · rfl

/-- The same for a 16-bit read. -/
theorem readLoc16_cases {loc : Loc} {s t : State} {v : Word} (h : readLoc16 s loc = .ok (v, t)) :
    ∃ pl, resolve .word loc s = .ok (pl, t) ∧ readPlace16 t pl = .ok v := by
  unfold readLoc16 at h
  simp only [Res.bind_eq_ok, Res.pure_eq, Except.ok.injEq, Prod.mk.injEq] at h
  obtain ⟨⟨pl, s1⟩, h1, v', h2, rfl, rfl⟩ := h
  exact ⟨pl, h1, h2⟩

/-- The same for a 32-bit read. -/
theorem readLoc32_cases {loc : Loc} {s t : State} {v : Long} (h : readLoc32 s loc = .ok (v, t)) :
    ∃ pl, resolve .long loc s = .ok (pl, t) ∧ readPlace32 t pl = .ok v := by
  unfold readLoc32 at h
  simp only [Res.bind_eq_ok, Res.pure_eq, Except.ok.injEq, Prod.mk.injEq] at h
  obtain ⟨⟨pl, s1⟩, h1, v', h2, rfl, rfl⟩ := h
  exact ⟨pl, h1, h2⟩

/-! ## Reads marked, and the described modes -/

/-- The marks once an instruction has begun are its own reads, stamped with its number, and those that stood from the
instruction before it (log 21). -/
theorem State.mem_readsWith {s : State} {i : Instr} {k : AccessMark} : k ∈ s.readsWith i ↔
    (k.stamp = s.icount + 1 ∧ if k.prog then k.word ∈ progReads i s else k.word ∈ dataReads i s) ∨
      (k ∈ s.reads ∧ k.stamp = s.icount) := by
  obtain ⟨w, p, n⟩ := k
  simp only [State.readsWith, List.mem_append, List.mem_map, List.mem_filter, AccessMark.mk.injEq, beq_iff_eq]
  constructor
  · rintro ((⟨x, hx, rfl, rfl, rfl⟩ | ⟨x, hx, rfl, rfl, rfl⟩) | h)
    · exact .inl ⟨rfl, hx⟩
    · exact .inl ⟨rfl, hx⟩
    · exact .inr h
  · rintro (⟨h1, h2⟩ | h)
    · cases p
      · exact .inl (.inl ⟨w, h2, rfl, rfl, h1.symm⟩)
      · exact .inl (.inr ⟨w, h2, rfl, rfl, h1.symm⟩)
    · exact .inr h

/-- The step goes on past the check of the operating mode exactly in a described one (R5, R48). -/
theorem State.modeStop_none_iff (s : State) : s.modeStop = none ↔ s.described := by
  unfold State.modeStop State.described
  simp only [Config.emulatorAttached, Bool.false_eq_true, if_false]
  cases s.st1.objmode <;> cases s.st1.amode <;> cases s.st1.m0m1map <;> simp

end Sys2Proof.Machine
end

