-- ==== Sys2Proof/Laws/Entry.lean ====
section
/-! SUPPORT. What the context save, the entry into a service routine and the return from one do, said once: the words
of the frame, the registers, and that nothing else changes. -/

namespace Sys2Proof.Machine

/-! ## A run of words stored -/

/-- Words stored at the places `f k`, `f (k + 1)`, … -/
def Memory.fill (f : Nat → Nat) : Nat → List Word → Memory → Memory
  | _, [], m => m
  | k, w :: ws, m => Memory.fill f (k + 1) ws (m.setWord (f k) w)

/-- A byte outside the places is as before. -/
theorem Memory.get_fill_ne (f : Nat → Nat) (ws : List Word) : ∀ (k : Nat) (m : Memory) (b : Nat),
    (∀ j, k ≤ j → j < k + ws.length → b / 2 ≠ f j) → (Memory.fill f k ws m).get b = m.get b := by
  induction ws with
  | nil => intros; rfl
  | cons w ws ih =>
    intro k m b h
    have h0 := h k (Nat.le_refl _) (by simp)
    rw [Memory.fill, ih (k + 1) _ b (fun j h1 h2 => h j (by omega) (by simp only [List.length_cons]; omega)),
      Memory.get_setWord_ne _ _ _ _ (by omega) (by omega)]

/-- A word at a place none of the stores touches is as before. -/
theorem Memory.word_fill_ne (f : Nat → Nat) (ws : List Word) (k : Nat) (m : Memory) (a : Nat)
    (h : ∀ j, k ≤ j → j < k + ws.length → a ≠ f j) : (Memory.fill f k ws m).word a = m.word a := by
  unfold Memory.word
  rw [Memory.get_fill_ne f ws k m _ (fun j h1 h2 => by have := h j h1 h2; omega),
    Memory.get_fill_ne f ws k m _ (fun j h1 h2 => by have := h j h1 h2; omega)]

/-- Each place holds its word, where the places are different. -/
theorem Memory.word_fill (f : Nat → Nat) (ws : List Word) : ∀ (k : Nat) (m : Memory),
    (∀ i j, k ≤ i → i < j → j < k + ws.length → f i ≠ f j) →
    ∀ i < ws.length, (Memory.fill f k ws m).word (f (k + i)) = ws.getD i 0 := by
  induction ws with
  | nil => intro k m _ i hi; simp at hi
  | cons w ws ih =>
    intro k m h i hi
    simp only [List.length_cons] at hi h
    rw [Memory.fill]
    cases i with
    | zero =>
      refine (Memory.word_fill_ne f ws (k + 1) _ (f k) (fun j h1 h2 => ?_)).trans (Memory.word_setWord_self ..)
      exact h k j (Nat.le_refl _) (by omega) (by omega)
    | succ i =>
      have := ih (k + 1) (m.setWord (f k) w) (fun i j h1 h2 h3 => h i j (by omega) h2 (by omega)) i (by omega)
      rw [show k + (i + 1) = k + 1 + i by omega, this]
      rfl

/-! ## The frame of a context -/

/-- The word address `k` words above the even address at or below an SP value. -/
def frameAt (b : Word) (k : Nat) : Nat := ((b &&& 0xFFFE#16) + BitVec.ofNat 16 k).toNat

theorem and_even_toNat (b : Word) : (b &&& 0xFFFE#16).toNat = b.toNat - b.toNat % 2 := by
  rw [← evenAddr_toNat b]; rfl

theorem frameAt_eq (b : Word) (k : Nat) : frameAt b k = (b.toNat - b.toNat % 2 + k) % 65536 := by
  unfold frameAt; rw [BitVec.toNat_add, and_even_toNat]; simp

theorem frameAt_ne (b : Word) (i j : Nat) (h : i < j) (hj : j < 14) : frameAt b i ≠ frameAt b j := by
  rw [frameAt_eq, frameAt_eq]; omega

/-- The pair a 32-bit stack access reaches `2 j` words above `b`. -/
theorem evenAddr_frame (b : Word) (j : Nat) :
    (evenAddr ((b + BitVec.ofNat 16 (2 * j)).zeroExtend 32 : DataAddr)).toNat = frameAt b (2 * j) ∧
      (evenAddr ((b + BitVec.ofNat 16 (2 * j)).zeroExtend 32 : DataAddr) + 1).toNat = frameAt b (2 * j + 1) := by
  have := b.isLt
  rw [evenAddr_succ_toNat, evenAddr_toNat, frameAt_eq, frameAt_eq]
  simp only [BitVec.toNat_setWidth, BitVec.toNat_add, BitVec.toNat_ofNat]
  constructor <;> omega

/-- A data store leaves the marks of program stores as they were. -/
theorem State.prog_of_mark {s : State} {w : Nat} {k : AccessMark} (h : k ∈ s.mark w false) (hp : k.prog = true) :
    k ∈ s.stores := by
  unfold State.mark at h
  split at h
  · rcases List.mem_cons.1 h with rfl | h
    · cases hp
    · exact (List.mem_filter.1 h).1
  · exact h

/-- A data write is in order where no mark is of program space. -/
theorem State.unorderedWrite_data {s : State} (hs : ∀ k ∈ s.stores, k.prog = false) (hr : ∀ k ∈ s.reads, k.prog = false)
    (w : Nat) : s.unorderedWrite w false = false := by
  unfold State.unorderedWrite
  rw [State.clash_same _ _ _ _ hs, State.clash_same _ _ _ _ hr]; rfl

/-- A data store adds no mark of program space. -/
theorem State.mark_data {s : State} {w : Nat} (h : ∀ k ∈ s.stores, k.prog = false) :
    ∀ k ∈ s.mark w false, k.prog = false := by
  intro k hk
  cases hp : k.prog with
  | false => rfl
  | true => rw [← hp, h k (State.prog_of_mark hk hp)]

/-- A state with another memory, other marks of stores and another SP. -/
def State.stacked (s : State) (m : Memory) (st : List AccessMark) (p : Word) : State :=
  { s with mem := m, stores := st, sp := p }

/-- What a push of a pair does where its two words may be written and no mark is of program space. -/
theorem push32_frame (s : State) (m : Memory) (st : List AccessMark) (b : Word) (j : Nat) (v : Long)
    (hr : ∀ k ∈ s.reads, k.prog = false) (hst : ∀ k ∈ st, k.prog = false)
    (h0 : ¬ (0x800 ≤ frameAt b (2 * j) ∧ frameAt b (2 * j) ≤ 0x9FF))
    (h1 : ¬ (0x800 ≤ frameAt b (2 * j + 1) ∧ frameAt b (2 * j + 1) ≤ 0x9FF)) :
    ∃ st', (∀ k ∈ st', k.prog = false) ∧
      push32 (s.stacked m st (b + BitVec.ofNat 16 (2 * j))) v =
        .ok (s.stacked ((m.setWord (frameAt b (2 * j)) (lowWord v)).setWord (frameAt b (2 * j + 1)) (highWord v)) st'
          (b + BitVec.ofNat 16 (2 * (j + 1)))) := by
  obtain ⟨e0, e1⟩ := evenAddr_frame b j
  let t := s.stacked m ((s.stacked m st b).mark (frameAt b (2 * j)) false) b
  refine ⟨t.mark (frameAt b (2 * j + 1)) false, ?_, ?_⟩
  · exact State.mark_data (State.mark_data (s := s.stacked m st b) hst)
  · let u0 := s.stacked m st (b + BitVec.ofNat 16 (2 * j))
    let u1 : State := { u0 with mem := u0.mem.setWord (frameAt b (2 * j)) (lowWord v),
                                stores := u0.mark (frameAt b (2 * j)) false }
    have o0 : ∀ w, u0.unorderedWrite w false = false := State.unorderedWrite_data hst hr
    have o1 : ∀ w, u1.unorderedWrite w false = false := State.unorderedWrite_data (State.mark_data (s := u0) hst) hr
    refine (push32_ok_iff u0 v _).2 ⟨_, (writeData32_ok_iff ..).2 ⟨u1, (writeData_ok_iff ..).2 ⟨?_, o0 _, ?_⟩,
      (writeData_ok_iff u1 ..).2 ⟨?_, o1 _, rfl⟩⟩, ?_⟩
    · exact (State.dataAccess_ok_iff ..).2 (e0.symm ▸ h0)
    · exact congrArg (fun a => { u0 with mem := u0.mem.setWord a (lowWord v), stores := u0.mark a false }) e0.symm
    · exact (State.dataAccess_ok_iff ..).2 (e1.symm ▸ h1)
    · rw [show b + BitVec.ofNat 16 (2 * (j + 1)) = b + BitVec.ofNat 16 (2 * j) + 2 by
        apply BitVec.eq_of_toNat_eq; simp [BitVec.toNat_add]; omega]
      exact congrArg (fun a => ({ u1 with
        mem := u1.mem.setWord a (highWord v), stores := u1.mark a false, sp := b + BitVec.ofNat 16 (2 * j) + 2 } :
          State)) e1.symm

/-- The context save where no mark is of program space: fourteen words from the even address at or below SP up, SP up
by 14, nothing else but the marks of stores. -/
theorem contextSave_ok (s : State) (b : Word) (r : ProgAddr)
    (hr : ∀ k ∈ s.reads, k.prog = false) (hst : ∀ k ∈ s.stores, k.prog = false)
    (h : ∀ k < 14, ¬ (0x800 ≤ frameAt b k ∧ frameAt b k ≤ 0x9FF)) :
    ∃ st, (∀ k ∈ st, k.prog = false) ∧
      contextSave { s with sp := b } r =
        .ok (s.stacked (Memory.fill (frameAt b) 0 (s.contextWords r) s.mem) st (b + 14)) := by
  obtain ⟨t1, k1, e1⟩ := push32_frame s s.mem s.stores b 0 (longOf s.t s.st0Word) hr hst (h 0 (by omega)) (h 1 (by omega))
  obtain ⟨t2, k2, e2⟩ := push32_frame s _ t1 b 1 s.acc hr k1 (h 2 (by omega)) (h 3 (by omega))
  obtain ⟨t3, k3, e3⟩ := push32_frame s _ t2 b 2 s.p hr k2 (h 4 (by omega)) (h 5 (by omega))
  obtain ⟨t4, k4, e4⟩ :=
    push32_frame s _ t3 b 3 (longOf (s.arOf .xar1) (s.arOf .xar0)) hr k3 (h 6 (by omega)) (h 7 (by omega))
  obtain ⟨t5, k5, e5⟩ := push32_frame s _ t4 b 4 (longOf s.dp s.st1Word) hr k4 (h 8 (by omega)) (h 9 (by omega))
  obtain ⟨t6, k6, e6⟩ := push32_frame s _ t5 b 5 (longOf s.dbgstat s.ier) hr k5 (h 10 (by omega))
    (h 11 (by omega))
  obtain ⟨t7, k7, e7⟩ := push32_frame s _ t6 b 6 (r.zeroExtend 32) hr k6 (h 12 (by omega)) (h 13 (by omega))
  refine ⟨t7, k7, ?_⟩
  have e0 : ({ s with sp := b } : State) = s.stacked s.mem s.stores (b + BitVec.ofNat 16 (2 * 0)) := by
    simp [State.stacked]
  rw [e0]
  show (do
    let s1 ← push32 (s.stacked s.mem s.stores (b + BitVec.ofNat 16 (2 * 0))) (longOf s.t s.st0Word)
    let s2 ← push32 s1 s.acc
    let s3 ← push32 s2 s.p
    let s4 ← push32 s3 (longOf (s.arOf .xar1) (s.arOf .xar0))
    let s5 ← push32 s4 (longOf s.dp s.st1Word)
    let s6 ← push32 s5 (longOf s.dbgstat s.ier)
    push32 s6 (r.zeroExtend 32)) = _
  rw [e1, Res.ok_bind, e2, Res.ok_bind, e3, Res.ok_bind, e4, Res.ok_bind, e5, Res.ok_bind, e6, Res.ok_bind, e7]
  have hl : lowWord (r.zeroExtend 32) = r.extractLsb' 0 16 := by
    apply BitVec.eq_of_toNat_eq; simp
  have hh : highWord (r.zeroExtend 32) = (r.extractLsb' 16 6).zeroExtend 16 := by
    apply BitVec.eq_of_toNat_eq; have := r.isLt; simp [Nat.shiftRight_eq_div_pow]; omega
  have hlow : ∀ x y : Word, lowWord (longOf x y) = y := fun x y => BitVec.extractLsb'_append_eq_right
  have hhigh : ∀ x y : Word, highWord (longOf x y) = x := fun x y => BitVec.extractLsb'_append_eq_left
  simp only [hl, hh, hlow, hhigh]
  rfl

/-! ## Entry -/

theorem fetchVector_eq (s : State) (n : BitVec 5) : fetchVector s n = .ok (s.vectorOf n) := rfl

/-- Taking an interrupt or a trap: it answers wherever the context may be saved, with the state `Entered` describes. -/
theorem enterInterrupt_ok (s : State) (n : BitVec 5) (r : ProgAddr) (l : Option (BitVec 4)) (h : s.canSave) :
    ∃ t, enterInterrupt s n r l = .ok t ∧ Entered s t n r (l.elim 0 lineMask) ∧ ∀ k ∈ t.stores, k.prog = false := by
  let m : Word := l.elim 0 lineMask
  let s1 : State := { s with ifr := s.ifr &&& ~~~m, stores := [], reads := [] }
  obtain ⟨st, h1, h2⟩ := contextSave_ok s1 (s.sp + 1) r (by simp [s1]) (by simp [s1]) h
  refine ⟨{ s1.stacked (Memory.fill (frameAt (s.sp + 1)) 0 (s1.contextWords r) s1.mem) st (s.sp + 1 + 14) with
    ier := s.ier &&& ~~~m, st1 := s.st1.entered, pc := s.vectorOf n, isrStart := true, repeating := false,
    rptAddr := none }, ?_, ⟨?_, ?_, ?_⟩, h1⟩
  · have e : enterInterrupt s n r l = (do
        let s2 ← contextSave { s1 with sp := s.sp + 1 } r
        .ok { s2 with ier := s2.ier &&& ~~~m, st1 := s2.st1.entered, pc := s.vectorOf n, isrStart := true,
                      repeating := false, rptAddr := none }) := by
      cases l <;> rfl
    rw [e, h2]
    rfl
  · rw [show s.sp + 15 = s.sp + 1 + 14 by rw [BitVec.add_assoc]; rfl]
    rfl
  · intro k hk
    have h3 := Memory.word_fill (frameAt (s.sp + 1)) (s1.contextWords r) 0 s1.mem
      (fun i j _ h2 h3 => frameAt_ne _ i j h2 (by simpa [State.contextWords] using h3)) k
      (by simpa [State.contextWords] using hk)
    rw [Nat.zero_add] at h3
    exact h3
  · intro b hb
    refine Memory.get_fill_ne _ _ _ _ _ (fun j _ h2 => hb j ?_)
    simpa [State.contextWords] using h2

/-! ## Return -/

/-- What a pop of a pair does where its two words may be read. -/
theorem pop32_frame (s : State) (b : Word) (j : Nat)
    (h0 : ¬ (0x800 ≤ frameAt b (2 * j) ∧ frameAt b (2 * j) ≤ 0x9FF))
    (h1 : ¬ (0x800 ≤ frameAt b (2 * j + 1) ∧ frameAt b (2 * j + 1) ≤ 0x9FF))
    (u0 : s.unordered (frameAt b (2 * j)) false = false) (u1 : s.unordered (frameAt b (2 * j + 1)) false = false) :
    pop32 { s with sp := b + BitVec.ofNat 16 (2 * (j + 1)) } =
      .ok (longOf (s.mem.word (frameAt b (2 * j + 1))) (s.mem.word (frameAt b (2 * j))),
        { s with sp := b + BitVec.ofNat 16 (2 * j) }) := by
  obtain ⟨e0, e1⟩ := evenAddr_frame b j
  have hp : b + BitVec.ofNat 16 (2 * (j + 1)) - 2 = b + BitVec.ofNat 16 (2 * j) := by
    rw [show BitVec.ofNat 16 (2 * (j + 1)) = BitVec.ofNat 16 (2 * j) + 2 by
      apply BitVec.eq_of_toNat_eq; simp [BitVec.toNat_add]; omega, ← BitVec.add_assoc, BitVec.add_sub_cancel]
  rw [pop32_ok_iff]
  simp only [hp, true_and]
  refine (readData32_ok_iff ..).2 ⟨_, _, (readData_ok_iff ..).2 ⟨?_, ?_, rfl⟩, (readData_ok_iff ..).2 ⟨?_, ?_, rfl⟩, ?_⟩
  · rw [e0]; exact (State.dataAccess_ok_iff ..).2 h0
  · rw [e0]; exact u0
  · rw [e1]; exact (State.dataAccess_ok_iff ..).2 h1
  · rw [e1]; exact u1
  · rw [e0, e1]

end Sys2Proof.Machine
end

