-- ==== Sys2Proof/Laws/PerInstr.lean ====
section
/-! SUPPORT. Statements made for each instruction: an encoding has one or two words (R140). -/

namespace Sys2Proof.Laws.EncodedLength

/-- The encoder writes one word or two (R140). -/
def Statement (i : Instr) : Prop := (encode i).length = 1 ∨ (encode i).length = 2

theorem setcMode (c : BitVec 8) : Statement (.setcMode c) := .inl rfl
theorem clrcMode (c : BitVec 8) : Statement (.clrcMode c) := .inl rfl
theorem setcXf : Statement .setcXf := .inl rfl
theorem clrcXf : Statement .clrcXf := .inl rfl
theorem setcObjmode : Statement .setcObjmode := .inl rfl
theorem clrcObjmode : Statement .clrcObjmode := .inl rfl
theorem setcAmode : Statement .setcAmode := .inl rfl
theorem clrcAmode : Statement .clrcAmode := .inl rfl
theorem eallow : Statement .eallow := .inl rfl
theorem edis : Statement .edis := .inl rfl
theorem asp : Statement .asp := .inl rfl
theorem nasp : Statement .nasp := .inl rfl
theorem zapOvc : Statement .zapOvc := .inl rfl
theorem movOvcLoc16 (loc : Loc) : Statement (.movOvcLoc16 loc) := .inr rfl
theorem movuOvcLoc16 (loc : Loc) : Statement (.movuOvcLoc16 loc) := .inr rfl
theorem spm (pm : BitVec 3) : Statement (.spm pm) := .inl rfl
theorem addAccLoc16 (loc : Loc) : Statement (.addAccLoc16 loc) := .inl rfl
theorem addAccLoc16Shl (sh : BitVec 4) (loc : Loc) : Statement (.addAccLoc16Shl sh loc) := .inr rfl
theorem addAccLoc16Shl16 (loc : Loc) : Statement (.addAccLoc16Shl16 loc) := .inl rfl
theorem addAccImmShl (sh : BitVec 4) (c : BitVec 16) : Statement (.addAccImmShl sh c) := .inr rfl
theorem addAccLoc16ShlT (loc : Loc) : Statement (.addAccLoc16ShlT loc) := .inr rfl
theorem addbAcc (c : BitVec 8) : Statement (.addbAcc c) := .inl rfl
theorem addclAcc (loc : Loc) : Statement (.addclAcc loc) := .inr rfl
theorem addcuAcc (loc : Loc) : Statement (.addcuAcc loc) := .inl rfl
theorem addlAcc (loc : Loc) : Statement (.addlAcc loc) := .inl rfl
theorem addlLoc32Acc (loc : Loc) : Statement (.addlLoc32Acc loc) := .inr rfl
theorem adduAcc (loc : Loc) : Statement (.adduAcc loc) := .inl rfl
theorem addulAcc (loc : Loc) : Statement (.addulAcc loc) := .inr rfl
theorem addulP (loc : Loc) : Statement (.addulP loc) := .inr rfl
theorem subAccLoc16 (loc : Loc) : Statement (.subAccLoc16 loc) := .inl rfl
theorem subAccLoc16Shl (sh : BitVec 4) (loc : Loc) : Statement (.subAccLoc16Shl sh loc) := .inr rfl
theorem subAccLoc16Shl16 (loc : Loc) : Statement (.subAccLoc16Shl16 loc) := .inl rfl
theorem subAccImmShl (sh : BitVec 4) (c : BitVec 16) : Statement (.subAccImmShl sh c) := .inr rfl
theorem subAccLoc16ShlT (loc : Loc) : Statement (.subAccLoc16ShlT loc) := .inr rfl
theorem subbAcc (c : BitVec 8) : Statement (.subbAcc c) := .inl rfl
theorem subblAcc (loc : Loc) : Statement (.subblAcc loc) := .inr rfl
theorem sbbuAcc (loc : Loc) : Statement (.sbbuAcc loc) := .inl rfl
theorem sublAcc (loc : Loc) : Statement (.sublAcc loc) := .inl rfl
theorem sublLoc32Acc (loc : Loc) : Statement (.sublLoc32Acc loc) := .inr rfl
theorem subrlLoc32Acc (loc : Loc) : Statement (.subrlLoc32Acc loc) := .inr rfl
theorem subuAcc (loc : Loc) : Statement (.subuAcc loc) := .inl rfl
theorem subulAcc (loc : Loc) : Statement (.subulAcc loc) := .inr rfl
theorem subulP (loc : Loc) : Statement (.subulP loc) := .inr rfl
theorem cmplAcc (loc : Loc) : Statement (.cmplAcc loc) := .inl rfl
theorem addAccP : Statement .addAccP := .inl rfl
theorem subAccP : Statement .subAccP := .inl rfl
theorem cmplAccP : Statement .cmplAccP := .inl rfl
theorem movAccP : Statement .movAccP := .inl rfl
theorem maxlAcc (loc : Loc) : Statement (.maxlAcc loc) := .inr rfl
theorem minlAcc (loc : Loc) : Statement (.minlAcc loc) := .inr rfl
theorem absAcc : Statement .absAcc := .inl rfl
theorem abstcAcc : Statement .abstcAcc := .inl rfl
theorem negAcc : Statement .negAcc := .inl rfl
theorem negtcAcc : Statement .negtcAcc := .inl rfl
theorem neg64AccP : Statement .neg64AccP := .inl rfl
theorem satAcc : Statement .satAcc := .inl rfl
theorem sat64AccP : Statement .sat64AccP := .inl rfl
theorem testAcc : Statement .testAcc := .inl rfl
theorem zapa : Statement .zapa := .inl rfl
theorem subcu (loc : Loc) : Statement (.subcu loc) := .inl rfl
theorem subcul (loc : Loc) : Statement (.subcul loc) := .inr rfl
theorem normXarInc (n : XReg) : Statement (.normXarInc n) := .inl rfl
theorem normXarDec (n : XReg) : Statement (.normXarDec n) := .inl rfl
theorem normInd : Statement .normInd := .inl rfl
theorem normIndInc : Statement .normIndInc := .inl rfl
theorem normIndDec : Statement .normIndDec := .inl rfl
theorem normInd0Inc : Statement .normInd0Inc := .inl rfl
theorem normInd0Dec : Statement .normInd0Dec := .inl rfl
theorem csb : Statement .csb := .inl rfl
theorem addAxLoc16 (ax : AccHalf) (loc : Loc) : Statement (.addAxLoc16 ax loc) := .inl rfl
theorem addLoc16Ax (ax : AccHalf) (loc : Loc) : Statement (.addLoc16Ax ax loc) := .inl rfl
theorem addLoc16Imm (loc : Loc) (c : BitVec 16) : Statement (.addLoc16Imm loc c) := .inr rfl
theorem addbAx (ax : AccHalf) (c : BitVec 8) : Statement (.addbAx ax c) := .inl rfl
theorem subAxLoc16 (ax : AccHalf) (loc : Loc) : Statement (.subAxLoc16 ax loc) := .inl rfl
theorem subLoc16Ax (ax : AccHalf) (loc : Loc) : Statement (.subLoc16Ax ax loc) := .inl rfl
theorem subrLoc16Ax (ax : AccHalf) (loc : Loc) : Statement (.subrLoc16Ax ax loc) := .inl rfl
theorem incLoc16 (loc : Loc) : Statement (.incLoc16 loc) := .inl rfl
theorem decLoc16 (loc : Loc) : Statement (.decLoc16 loc) := .inl rfl
theorem cmpAxLoc16 (ax : AccHalf) (loc : Loc) : Statement (.cmpAxLoc16 ax loc) := .inl rfl
theorem cmpLoc16Imm (loc : Loc) (c : BitVec 16) : Statement (.cmpLoc16Imm loc c) := .inr rfl
theorem cmpbAx (ax : AccHalf) (c : BitVec 8) : Statement (.cmpbAx ax c) := .inl rfl
theorem maxAx (ax : AccHalf) (loc : Loc) : Statement (.maxAx ax loc) := .inr rfl
theorem minAx (ax : AccHalf) (loc : Loc) : Statement (.minAx ax loc) := .inr rfl
theorem negAx (ax : AccHalf) : Statement (.negAx ax) := .inl rfl
theorem tbitImm (b : BitVec 4) (loc : Loc) : Statement (.tbitImm b loc) := .inl rfl
theorem tbitT (loc : Loc) : Statement (.tbitT loc) := .inr rfl
theorem tclr (b : BitVec 4) (loc : Loc) : Statement (.tclr b loc) := .inr rfl
theorem tset (b : BitVec 4) (loc : Loc) : Statement (.tset b loc) := .inr rfl
theorem cmpr0 : Statement .cmpr0 := .inl rfl
theorem cmpr1 : Statement .cmpr1 := .inl rfl
theorem cmpr2 : Statement .cmpr2 := .inl rfl
theorem cmpr3 : Statement .cmpr3 := .inl rfl
theorem lslAccImm (sh : BitVec 4) : Statement (.lslAccImm sh) := .inl rfl
theorem lslAccT : Statement .lslAccT := .inl rfl
theorem lsllAccT : Statement .lsllAccT := .inl rfl
theorem sfrAccImm (sh : BitVec 4) : Statement (.sfrAccImm sh) := .inl rfl
theorem sfrAccT : Statement .sfrAccT := .inl rfl
theorem lsrlAccT : Statement .lsrlAccT := .inl rfl
theorem asrlAccT : Statement .asrlAccT := .inl rfl
theorem rolAcc : Statement .rolAcc := .inl rfl
theorem rorAcc : Statement .rorAcc := .inl rfl
theorem lslAxImm (ax : AccHalf) (sh : BitVec 4) : Statement (.lslAxImm ax sh) := .inl rfl
theorem lslAxT (ax : AccHalf) : Statement (.lslAxT ax) := .inl rfl
theorem lsrAxImm (ax : AccHalf) (sh : BitVec 4) : Statement (.lsrAxImm ax sh) := .inl rfl
theorem lsrAxT (ax : AccHalf) : Statement (.lsrAxT ax) := .inl rfl
theorem asrAxImm (ax : AccHalf) (sh : BitVec 4) : Statement (.asrAxImm ax sh) := .inl rfl
theorem asrAxT (ax : AccHalf) : Statement (.asrAxT ax) := .inl rfl
theorem lsl64Imm (sh : BitVec 4) : Statement (.lsl64Imm sh) := .inl rfl
theorem lsl64T : Statement .lsl64T := .inl rfl
theorem lsr64Imm (sh : BitVec 4) : Statement (.lsr64Imm sh) := .inl rfl
theorem lsr64T : Statement .lsr64T := .inl rfl
theorem asr64Imm (sh : BitVec 4) : Statement (.asr64Imm sh) := .inl rfl
theorem asr64T : Statement .asr64T := .inl rfl
theorem mova (loc : Loc) : Statement (.mova loc) := .inl rfl
theorem movad (loc : Loc) : Statement (.movad loc) := .inl rfl
theorem movp (loc : Loc) : Statement (.movp loc) := .inl rfl
theorem movs (loc : Loc) : Statement (.movs loc) := .inl rfl
theorem mpyPT (loc : Loc) : Statement (.mpyPT loc) := .inl rfl
theorem mpyPImm (loc : Loc) (c : BitVec 16) : Statement (.mpyPImm loc c) := .inr rfl
theorem mpyAccT (loc : Loc) : Statement (.mpyAccT loc) := .inl rfl
theorem mpyAccImm (loc : Loc) (c : BitVec 16) : Statement (.mpyAccImm loc c) := .inr rfl
theorem mpyaPImm (loc : Loc) (c : BitVec 16) : Statement (.mpyaPImm loc c) := .inr rfl
theorem mpyaPT (loc : Loc) : Statement (.mpyaPT loc) := .inl rfl
theorem mpysPT (loc : Loc) : Statement (.mpysPT loc) := .inl rfl
theorem sqra (loc : Loc) : Statement (.sqra loc) := .inr rfl
theorem sqrs (loc : Loc) : Statement (.sqrs loc) := .inr rfl
theorem macPma (loc : Loc) (c : BitVec 16) : Statement (.macPma loc c) := .inr rfl
theorem macXar7 (loc : Loc) : Statement (.macXar7 loc) := .inr rfl
theorem macXar7Inc (loc : Loc) : Statement (.macXar7Inc loc) := .inr rfl
theorem dmacXar7 (loc : Loc) : Statement (.dmacXar7 loc) := .inr rfl
theorem dmacXar7Inc (loc : Loc) : Statement (.dmacXar7Inc loc) := .inr rfl
theorem impyl (loc : Loc) : Statement (.impyl loc) := .inr rfl
theorem impyal (loc : Loc) : Statement (.impyal loc) := .inr rfl
theorem impysl (loc : Loc) : Statement (.impysl loc) := .inr rfl
theorem impyxul (loc : Loc) : Statement (.impyxul loc) := .inr rfl
theorem imaclXar7 (loc : Loc) : Statement (.imaclXar7 loc) := .inr rfl
theorem imaclXar7Inc (loc : Loc) : Statement (.imaclXar7Inc loc) := .inr rfl
theorem xmac (loc : Loc) (c : BitVec 16) : Statement (.xmac loc c) := .inr rfl
theorem xmacd (loc : Loc) (c : BitVec 16) : Statement (.xmacd loc c) := .inr rfl
theorem qmpyal (loc : Loc) : Statement (.qmpyal loc) := .inr rfl
theorem qmpysl (loc : Loc) : Statement (.qmpysl loc) := .inr rfl
theorem qmaclXar7 (loc : Loc) : Statement (.qmaclXar7 loc) := .inr rfl
theorem qmaclXar7Inc (loc : Loc) : Statement (.qmaclXar7Inc loc) := .inr rfl
theorem movAccLoc16 (loc : Loc) : Statement (.movAccLoc16 loc) := .inl rfl
theorem movAccLoc16Shl (sh : BitVec 4) (loc : Loc) : Statement (.movAccLoc16Shl sh loc) := .inr rfl
theorem movAccLoc16Shl16 (loc : Loc) : Statement (.movAccLoc16Shl16 loc) := .inl rfl
theorem movAccImmShl (sh : BitVec 4) (c : BitVec 16) : Statement (.movAccImmShl sh c) := .inr rfl
theorem movAccLoc16ShlT (loc : Loc) : Statement (.movAccLoc16ShlT loc) := .inr rfl
theorem movLoc16AccShl1 (loc : Loc) : Statement (.movLoc16AccShl1 loc) := .inl rfl
theorem movLoc16AccShl (sh : BitVec 3) (loc : Loc) : Statement (.movLoc16AccShl sh loc) := .inr rfl
theorem movhLoc16AccShl1 (loc : Loc) : Statement (.movhLoc16AccShl1 loc) := .inl rfl
theorem movhLoc16AccShl (sh : BitVec 3) (loc : Loc) : Statement (.movhLoc16AccShl sh loc) := .inr rfl
theorem movLoc16P (loc : Loc) : Statement (.movLoc16P loc) := .inl rfl
theorem movhLoc16P (loc : Loc) : Statement (.movhLoc16P loc) := .inl rfl
theorem movLoc16AxCond (ax : AccHalf) (cond : Cond) (loc : Loc) : Statement (.movLoc16AxCond ax cond loc) := .inr rfl
theorem movbLoc16Cond (cond : Cond) (c : BitVec 8) (loc : Loc) : Statement (.movbLoc16Cond cond c loc) := .inr rfl
theorem movlLoc32AccCond (cond : Cond) (loc : Loc) : Statement (.movlLoc32AccCond cond loc) := .inr rfl
theorem movArx (n : XReg) (loc : Loc) : Statement (.movArx n loc) := .inl rfl
theorem movbAr (n : XReg) (c : BitVec 8) : Statement (.movbAr n c) := .inl rfl
theorem movLoc16Ier (loc : Loc) : Statement (.movLoc16Ier loc) := .inl rfl
theorem movIerLoc16 (loc : Loc) : Statement (.movIerLoc16 loc) := .inl rfl
theorem orIer (c : BitVec 16) : Statement (.orIer c) := .inr rfl
theorem andIer (c : BitVec 16) : Statement (.andIer c) := .inr rfl
theorem orIfr (c : BitVec 16) : Statement (.orIfr c) := .inr rfl
theorem andIfr (c : BitVec 16) : Statement (.andIfr c) := .inr rfl
theorem pushIfr : Statement .pushIfr := .inl rfl
theorem pushDbgier : Statement .pushDbgier := .inl rfl
theorem popDbgier : Statement .popDbgier := .inl rfl
theorem pushXar0 : Statement .pushXar0 := .inl rfl
theorem pushXar1 : Statement .pushXar1 := .inl rfl
theorem pushXar2 : Statement .pushXar2 := .inl rfl
theorem pushXar3 : Statement .pushXar3 := .inl rfl
theorem pushXar4 : Statement .pushXar4 := .inl rfl
theorem pushXar5 : Statement .pushXar5 := .inl rfl
theorem pushXar6 : Statement .pushXar6 := .inl rfl
theorem pushXar7 : Statement .pushXar7 := .inl rfl
theorem popXar0 : Statement .popXar0 := .inl rfl
theorem popXar1 : Statement .popXar1 := .inl rfl
theorem popXar2 : Statement .popXar2 := .inl rfl
theorem popXar3 : Statement .popXar3 := .inl rfl
theorem popXar4 : Statement .popXar4 := .inl rfl
theorem popXar5 : Statement .popXar5 := .inl rfl
theorem popXar6 : Statement .popXar6 := .inl rfl
theorem popXar7 : Statement .popXar7 := .inl rfl
theorem pushXt : Statement .pushXt := .inl rfl
theorem popXt : Statement .popXt := .inl rfl
theorem pushAr1hAr0h : Statement .pushAr1hAr0h := .inl rfl
theorem popAr1hAr0h : Statement .popAr1hAr0h := .inl rfl
theorem pushSt0 : Statement .pushSt0 := .inl rfl
theorem popSt0 : Statement .popSt0 := .inl rfl
theorem pushSt1 : Statement .pushSt1 := .inl rfl
theorem popSt1 : Statement .popSt1 := .inl rfl
theorem pread (loc : Loc) : Statement (.pread loc) := .inl rfl
theorem pushIer : Statement .pushIer := .inl rfl
theorem pwrite (loc : Loc) : Statement (.pwrite loc) := .inl rfl
theorem b (cond : Cond) (c : BitVec 16) : Statement (.b cond c) := .inr rfl
theorem bf (cond : Cond) (c : BitVec 16) : Statement (.bf cond c) := .inr rfl
theorem sb (cond : Cond) (c : BitVec 8) : Statement (.sb cond c) := .inl rfl
theorem sbfEq (c : BitVec 8) : Statement (.sbfEq c) := .inl rfl
theorem sbfNeq (c : BitVec 8) : Statement (.sbfNeq c) := .inl rfl
theorem sbfTc (c : BitVec 8) : Statement (.sbfTc c) := .inl rfl
theorem sbfNtc (c : BitVec 8) : Statement (.sbfNtc c) := .inl rfl
theorem banz (n : XReg) (c : BitVec 16) : Statement (.banz n c) := .inr rfl
theorem barEq (n : XReg) (m : XReg) (c : BitVec 16) : Statement (.barEq n m c) := .inr rfl
theorem barNeq (n : XReg) (m : XReg) (c : BitVec 16) : Statement (.barNeq n m c) := .inr rfl
theorem xb (cond : Cond) (c : BitVec 16) : Statement (.xb cond c) := .inr rfl
theorem xbanzInd (c : BitVec 16) : Statement (.xbanzInd c) := .inr rfl
theorem xbanzIndInc (c : BitVec 16) : Statement (.xbanzIndInc c) := .inr rfl
theorem xbanzIndDec (c : BitVec 16) : Statement (.xbanzIndDec c) := .inr rfl
theorem xbanzInd0Inc (c : BitVec 16) : Statement (.xbanzInd0Inc c) := .inr rfl
theorem xbanzInd0Dec (c : BitVec 16) : Statement (.xbanzInd0Dec c) := .inr rfl
theorem xcall (cond : Cond) (c : BitVec 16) : Statement (.xcall cond c) := .inr rfl
theorem xretc (cond : Cond) : Statement (.xretc cond) := .inl rfl
theorem lcr (c : BitVec 22) : Statement (.lcr c) := .inr rfl
theorem lretr : Statement .lretr := .inl rfl
theorem rptImm (c : BitVec 8) : Statement (.rptImm c) := .inl rfl
theorem rptLoc16 (loc : Loc) : Statement (.rptLoc16 loc) := .inl rfl
theorem loopnz (loc : Loc) (c : BitVec 16) : Statement (.loopnz loc c) := .inr rfl
theorem loopz (loc : Loc) (c : BitVec 16) : Statement (.loopz loc c) := .inr rfl
theorem idle : Statement .idle := .inl rfl
theorem intr (c : BitVec 4) : Statement (.intr c) := .inl rfl
theorem intrNmi : Statement .intrNmi := .inl rfl
theorem trap (c : BitVec 5) : Statement (.trap c) := .inl rfl
theorem iret : Statement .iret := .inl rfl
theorem aborti : Statement .aborti := .inl rfl
theorem iack (c : BitVec 16) : Statement (.iack c) := .inr rfl
theorem estop0 : Statement .estop0 := .inl rfl
theorem estop1 : Statement .estop1 := .inl rfl

end Sys2Proof.Laws.EncodedLength
end

