-- ==== Sys2Proof/Tests/Slice0.lean ====
section
/-! SUPPORT. Tests: the checks of WellFormed, a word of every instruction, the spec's test vectors
(95_test_vectors.md), and a witness for the hypotheses of every statement. -/

namespace Sys2Proof.Tests

open Sys2Proof.Machine

/-! ## Helpers -/

/-- A state of the standing start of the vectors: C28x mode, ST0 = 0, ST1 = 0x0A0B, past the reset. -/
def start : State := { State.reset with resetRequest := false, st1 := St1.load St1.reset 0x0A0B }

/-- Memory that holds one word at data address 0. -/
def word (v : Word) : Memory := Memory.setWord [] 0 v

/-- Memory that holds a long word at data address 0. -/
def long (v : Long) : Memory := (Memory.setWord [] 0 (lowWord v)).setWord 1 (highWord v)

/-- The outcome is a next state with a property. -/
def ends (o : Host.Outcome State Fault Refusal) (p : State → Bool) : Bool :=
  match o with
  | .next t => p t
  | _ => false

/-- The outcome is a refusal. -/
def refuses (o : Host.Outcome State Fault Refusal) (r : Refusal) : Bool :=
  match o with
  | .refused q => q == r
  | _ => false

/-- The words decode to the instruction, with nothing left. -/
def reads (ws : List (BitVec 16)) (i : Instr) : Bool :=
  match decode ws with
  | .ok (j, []) => j == i
  | _ => false

/-! ## WellFormed: an ill-formed term for each check -/

theorem test_wellFormed_mova : (Instr.mova 0xAC).wellFormed = false := by decide
theorem test_wellFormed_movs : (Instr.movs 0xAC).wellFormed = false := by decide
theorem test_wellFormed_movp : (Instr.movp 0xAC).wellFormed = false := by decide
theorem test_wellFormed_movLoc16Ier : (Instr.movLoc16Ier 0xBD).wellFormed = false := by decide
theorem test_wellFormed_movArx : (Instr.movArx .xar6 0x00).wellFormed = false := by decide
theorem test_wellFormed_else : (Instr.mova 0xAB).wellFormed && (Instr.movArx .xar5 0xBD).wellFormed = true := by decide

/-! ## Decoding: a word of every instruction, written out from the encoding of its rule

The operand fields are filled with digits that are no palindromes, so that a swapped or shifted field is seen. -/

theorem test_decode_status_1 : (
    reads [0b0011101100101100] (.setcMode 0x2C) &&
    reads [0b0010100110100111] (.clrcMode 0xA7) &&
    reads [0b0101011000100110] .setcXf &&
    reads [0b0101011000011011] .clrcXf &&
    reads [0b0101011000011111] .setcObjmode &&
    reads [0b0101011000110110] .clrcObjmode &&
    reads [0b0101011000011110] .setcAmode &&
    reads [0b0101011000010110] .clrcAmode &&
    reads [0b0111011000100010] .eallow &&
    reads [0b0111011000011010] .edis &&
    reads [0b0111011000011011] .asp &&
    reads [0b0111011000010111] .nasp &&
    reads [0b0101011001011100] .zapOvc &&
    reads [0b0101011000000010, 0b0000000000000111] (.movOvcLoc16 0x07) &&
    reads [0b0101011001100010, 0b0000000010000010] (.movuOvcLoc16 0x82) &&
    reads [0b1111111101101001] (.spm 0x1)) = true := by decide

theorem test_decode_acc_1 : (
    reads [0b1000000101000101] (.addAccLoc16 0x45) &&
    reads [0b0101011000000100, 0b0000001001000101] (.addAccLoc16Shl 0x2 0x45) &&
    reads [0b0000010110001100] (.addAccLoc16Shl16 0x8C) &&
    reads [0b1111111100010101, 0b1000111001000111] (.addAccImmShl 0x5 0x8E47) &&
    reads [0b0101011000100011, 0b0000000000000111] (.addAccLoc16ShlT 0x07) &&
    reads [0b0000100100101100] (.addbAcc 0x2C) &&
    reads [0b0101011001000000, 0b0000000010001100] (.addclAcc 0x8C) &&
    reads [0b0000110010101001] (.addcuAcc 0xA9) &&
    reads [0b0000011100000111] (.addlAcc 0x07) &&
    reads [0b0101011000000001, 0b0000000010000010] (.addlLoc32Acc 0x82) &&
    reads [0b0000110110001100] (.adduAcc 0x8C) &&
    reads [0b0101011001010011, 0b0000000010000010] (.addulAcc 0x82) &&
    reads [0b0101011001010111, 0b0000000010001100] (.addulP 0x8C) &&
    reads [0b1010111010001100] (.subAccLoc16 0x8C) &&
    reads [0b0101011000000000, 0b0000101110001100] (.subAccLoc16Shl 0xB 0x8C) &&
    reads [0b0000010010000010] (.subAccLoc16Shl16 0x82) &&
    reads [0b1111111100001101, 0b0001101000101011] (.subAccImmShl 0xD 0x1A2B) &&
    reads [0b0101011000100111, 0b0000000010101001] (.subAccLoc16ShlT 0xA9) &&
    reads [0b0001100110100111] (.subbAcc 0xA7) &&
    reads [0b0101011001010100, 0b0000000001000101] (.subblAcc 0x45)) = true := by decide

theorem test_decode_acc_2 : (
    reads [0b0001110110101001] (.sbbuAcc 0xA9) &&
    reads [0b0000001110101001] (.sublAcc 0xA9) &&
    reads [0b0101011001000001, 0b0000000000000111] (.sublLoc32Acc 0x07) &&
    reads [0b0101011001001001, 0b0000000010001100] (.subrlLoc32Acc 0x8C) &&
    reads [0b0000000110000010] (.subuAcc 0x82) &&
    reads [0b0101011001010101, 0b0000000000000111] (.subulAcc 0x07) &&
    reads [0b0101011001011101, 0b0000000010000010] (.subulP 0x82) &&
    reads [0b0000111110101001] (.cmplAcc 0xA9) &&
    reads [0b0001000010101100] .addAccP &&
    reads [0b0001000110101100] .subAccP &&
    reads [0b1111111101011001] .cmplAccP &&
    reads [0b0001011010101100] .movAccP &&
    reads [0b0101011001100001, 0b0000000010001100] (.maxlAcc 0x8C) &&
    reads [0b0101011001010000, 0b0000000010000010] (.minlAcc 0x82) &&
    reads [0b1111111101010110] .absAcc &&
    reads [0b0101011001011111] .abstcAcc &&
    reads [0b1111111101010100] .negAcc &&
    reads [0b0101011000110010] .negtcAcc &&
    reads [0b0101011001011000] .neg64AccP &&
    reads [0b1111111101010111] .satAcc) = true := by decide

theorem test_decode_acc_3 : (
    reads [0b0101011000111110] .sat64AccP &&
    reads [0b1111111101011000] .testAcc &&
    reads [0b0101011000110011] .zapa &&
    reads [0b0001111110101001] (.subcu 0xA9) &&
    reads [0b0101011000010111, 0b0000000001000101] (.subcul 0x45) &&
    reads [0b1111111101111001] (.normXarInc .xar1) &&
    reads [0b1111111101110100] (.normXarDec .xar4) &&
    reads [0b0101011000100100] .normInd &&
    reads [0b0101011001011010] .normIndInc &&
    reads [0b0101011000100000] .normIndDec &&
    reads [0b0101011001110111] .normInd0Inc &&
    reads [0b0101011000110000] .normInd0Dec &&
    reads [0b0101011000110101] .csb) = true := by decide

theorem test_decode_word_1 : (
    reads [0b1001010010101001] (.addAxLoc16 .al 0xA9) &&
    reads [0b0111001010101001] (.addLoc16Ax .al 0xA9) &&
    reads [0b0000100010001100, 0b0001101000101011] (.addLoc16Imm 0x8C 0x1A2B) &&
    reads [0b1001110100101100] (.addbAx .ah 0x2C) &&
    reads [0b1001111101000101] (.subAxLoc16 .ah 0x45) &&
    reads [0b0111010101000101] (.subLoc16Ax .ah 0x45) &&
    reads [0b1110101100000111] (.subrLoc16Ax .ah 0x07) &&
    reads [0b0000101000000111] (.incLoc16 0x07) &&
    reads [0b0000101101000101] (.decLoc16 0x45) &&
    reads [0b0101010101000101] (.cmpAxLoc16 .ah 0x45) &&
    reads [0b0001101110000010, 0b1000111001000111] (.cmpLoc16Imm 0x82 0x8E47) &&
    reads [0b0101001010100111] (.cmpbAx .al 0xA7) &&
    reads [0b0101011001110010, 0b0000000010101001] (.maxAx .al 0xA9) &&
    reads [0b0101011001110100, 0b0000000001000101] (.minAx .al 0x45) &&
    reads [0b1111111101011100] (.negAx .al) &&
    reads [0b0100101110101001] (.tbitImm 0xB 0xA9) &&
    reads [0b0101011000100101, 0b0000000001000101] (.tbitT 0x45) &&
    reads [0b0101011000001001, 0b0000001010001100] (.tclr 0x2 0x8C) &&
    reads [0b0101011000001101, 0b0000110100000111] (.tset 0xD 0x07) &&
    reads [0b0101011000011101] .cmpr0) = true := by decide

theorem test_decode_word_2 : (
    reads [0b0101011000011001] .cmpr1 &&
    reads [0b0101011000011000] .cmpr2 &&
    reads [0b0101011000011100] .cmpr3) = true := by decide

theorem test_decode_shift_1 : (
    reads [0b1111111100111011] (.lslAccImm 0xB) &&
    reads [0b1111111101010000] .lslAccT &&
    reads [0b0101011000111011] .lsllAccT &&
    reads [0b1111111101001011] (.sfrAccImm 0xB) &&
    reads [0b1111111101010001] .sfrAccT &&
    reads [0b0101011000100010] .lsrlAccT &&
    reads [0b0101011000010000] .asrlAccT &&
    reads [0b1111111101010011] .rolAcc &&
    reads [0b1111111101010010] .rorAcc &&
    reads [0b1111111110001101] (.lslAxImm .al 0xD) &&
    reads [0b1111111101100111] (.lslAxT .ah) &&
    reads [0b1111111111001011] (.lsrAxImm .al 0xB) &&
    reads [0b1111111101100011] (.lsrAxT .ah) &&
    reads [0b1111111110110101] (.asrAxImm .ah 0x5) &&
    reads [0b1111111101100100] (.asrAxT .al) &&
    reads [0b0101011010100010] (.lsl64Imm 0x2) &&
    reads [0b0101011001010010] .lsl64T &&
    reads [0b0101011010010101] (.lsr64Imm 0x5) &&
    reads [0b0101011001011011] .lsr64T &&
    reads [0b0101011010001101] (.asr64Imm 0xD)) = true := by decide

theorem test_decode_shift_2 : (
    reads [0b0101011000101100] .asr64T) = true := by decide

theorem test_decode_multiply_1 : (
    reads [0b0001000010000010] (.mova 0x82) &&
    reads [0b1010011110000010] (.movad 0x82) &&
    reads [0b0001011010000010] (.movp 0x82) &&
    reads [0b0001000100000111] (.movs 0x07) &&
    reads [0b0011001110101001] (.mpyPT 0xA9) &&
    reads [0b1000110000000111, 0b0001101000101011] (.mpyPImm 0x07 0x1A2B) &&
    reads [0b0001001001000101] (.mpyAccT 0x45) &&
    reads [0b0011010010101001, 0b1000111001000111] (.mpyAccImm 0xA9 0x8E47) &&
    reads [0b0001010110000010, 0b1000111001000111] (.mpyaPImm 0x82 0x8E47) &&
    reads [0b0001011100000111] (.mpyaPT 0x07) &&
    reads [0b0001001110101001] (.mpysPT 0xA9) &&
    reads [0b0101011000010101, 0b0000000001000101] (.sqra 0x45) &&
    reads [0b0101011000010001, 0b0000000010001100] (.sqrs 0x8C) &&
    reads [0b0001010010101001, 0b0001101000101011] (.macPma 0xA9 0x1A2B) &&
    reads [0b0101011000000111, 0b1100011101000101] (.macXar7 0x45) &&
    reads [0b0101011000000111, 0b1000011110101001] (.macXar7Inc 0xA9) &&
    reads [0b0101011001001011, 0b1100011101000101] (.dmacXar7 0x45) &&
    reads [0b0101011001001011, 0b1000011110101001] (.dmacXar7Inc 0xA9) &&
    reads [0b0101011000000101, 0b0000000010000010] (.impyl 0x82) &&
    reads [0b0101011001001100, 0b0000000010001100] (.impyal 0x8C)) = true := by decide

theorem test_decode_multiply_2 : (
    reads [0b0101011001000011, 0b0000000010000010] (.impysl 0x82) &&
    reads [0b0101011001100101, 0b0000000010001100] (.impyxul 0x8C) &&
    reads [0b0101011001001101, 0b1100011110001100] (.imaclXar7 0x8C) &&
    reads [0b0101011001001101, 0b1000011101000101] (.imaclXar7Inc 0x45) &&
    reads [0b1000010010000010, 0b0001101000101011] (.xmac 0x82 0x1A2B) &&
    reads [0b1010010010000010, 0b0001101000101011] (.xmacd 0x82 0x1A2B) &&
    reads [0b0101011001000110, 0b0000000010000010] (.qmpyal 0x82) &&
    reads [0b0101011001000101, 0b0000000000000111] (.qmpysl 0x07) &&
    reads [0b0101011001001111, 0b1100011110000010] (.qmaclXar7 0x82) &&
    reads [0b0101011001001111, 0b1000011110001100] (.qmaclXar7Inc 0x8C)) = true := by decide

theorem test_decode_move_1 : (
    reads [0b1000010110000010] (.movAccLoc16 0x82) &&
    reads [0b0101011000000011, 0b0000101110000010] (.movAccLoc16Shl 0xB 0x82) &&
    reads [0b0010010100000111] (.movAccLoc16Shl16 0x07) &&
    reads [0b1111111100101101, 0b0001101000101011] (.movAccImmShl 0xD 0x1A2B) &&
    reads [0b0101011000000110, 0b0000000001000101] (.movAccLoc16ShlT 0x45) &&
    reads [0b1011000101000101] (.movLoc16AccShl1 0x45) &&
    reads [0b0101011000101101, 0b0000001110000010] (.movLoc16AccShl 0x3 0x82) &&
    reads [0b1011001100000111] (.movhLoc16AccShl1 0x07) &&
    reads [0b0101011000101111, 0b0000001101000101] (.movhLoc16AccShl 0x3 0x45) &&
    reads [0b0011111110001100] (.movLoc16P 0x8C) &&
    reads [0b0101011110101001] (.movhLoc16P 0xA9) &&
    reads [0b0101011000101011, 0b0000000110000010] (.movLoc16AxCond .ah .eq 0x82) &&
    reads [0b0101011010111000, 0b1010011100000111] (.movbLoc16Cond .lo 0xA7 0x07) &&
    reads [0b0101011001001000, 0b0000101101000101] (.movlLoc32AccCond .ov 0x45) &&
    reads [0b0101100110001100] (.movArx .xar1 0x8C) &&
    reads [0b1101010010100111] (.movbAr .xar4 0xA7) &&
    reads [0b0010000010000010] (.movLoc16Ier 0x82) &&
    reads [0b0010001110000010] (.movIerLoc16 0x82) &&
    reads [0b0111011000100011, 0b0001101000101011] (.orIer 0x1A2B) &&
    reads [0b0111011000100110, 0b0001101000101011] (.andIer 0x1A2B)) = true := by decide

theorem test_decode_move_2 : (
    reads [0b0111011000100111, 0b1000111001000111] (.orIfr 0x8E47) &&
    reads [0b0111011000101111, 0b1000111001000111] (.andIfr 0x8E47) &&
    reads [0b0111011000001010] .pushIfr &&
    reads [0b0111011000001110] .pushDbgier &&
    reads [0b0111011000010010] .popDbgier &&
    reads [0b0011101010111101] .pushXar0 &&
    reads [0b1011001010111101] .pushXar1 &&
    reads [0b1010101010111101] .pushXar2 &&
    reads [0b1010001010111101] .pushXar3 &&
    reads [0b1010100010111101] .pushXar4 &&
    reads [0b1010000010111101] .pushXar5 &&
    reads [0b1100001010111101] .pushXar6 &&
    reads [0b1100001110111101] .pushXar7 &&
    reads [0b1000111010111110] .popXar0 &&
    reads [0b1000101110111110] .popXar1 &&
    reads [0b1000011010111110] .popXar2 &&
    reads [0b1000001010111110] .popXar3 &&
    reads [0b1000101010111110] .popXar4 &&
    reads [0b1000001110111110] .popXar5 &&
    reads [0b1100010010111110] .popXar6) = true := by decide

theorem test_decode_move_3 : (
    reads [0b1100010110111110] .popXar7 &&
    reads [0b1010101110111101] .pushXt &&
    reads [0b1000011110111110] .popXt &&
    reads [0b0000000000000101] .pushAr1hAr0h &&
    reads [0b0000000000000011] .popAr1hAr0h &&
    reads [0b0111011000011000] .pushSt0 &&
    reads [0b0111011000010011] .popSt0 &&
    reads [0b0111011000001000] .pushSt1 &&
    reads [0b0111011000000000] .popSt1 &&
    reads [0b0010010001000101] (.pread 0x45) &&
    reads [0b0010000010111101] .pushIer &&
    reads [0b0010011010001100] (.pwrite 0x8C)) = true := by decide

theorem test_decode_control_1 : (
    reads [0b1111111111101011, 0b1000111001000111] (.b .ov 0x8E47) &&
    reads [0b0101011011001011, 0b1000111001000111] (.bf .ov 0x8E47) &&
    reads [0b0110110110100111] (.sb .tc 0xA7) &&
    reads [0b1110110010100111] (.sbfEq 0xA7) &&
    reads [0b1110110110100111] (.sbfNeq 0xA7) &&
    reads [0b1110111000101100] (.sbfTc 0x2C) &&
    reads [0b1110111100101100] (.sbfNtc 0x2C) &&
    reads [0b0000000000001100, 0b0001101000101011] (.banz .xar4 0x1A2B) &&
    reads [0b1000111110100110, 0b0001101000101011] (.barEq .xar4 .xar6 0x1A2B) &&
    reads [0b1000111111001001, 0b0001101000101011] (.barNeq .xar1 .xar1 0x1A2B) &&
    reads [0b0101011011011011, 0b1000111001000111] (.xb .ov 0x8E47) &&
    reads [0b0101011000001100, 0b1000111001000111] (.xbanzInd 0x8E47) &&
    reads [0b0101011000001010, 0b1000111001000111] (.xbanzIndInc 0x8E47) &&
    reads [0b0101011000001011, 0b1000111001000111] (.xbanzIndDec 0x8E47) &&
    reads [0b0101011000001110, 0b1000111001000111] (.xbanzInd0Inc 0x8E47) &&
    reads [0b0101011000001111, 0b1000111001000111] (.xbanzInd0Dec 0x8E47) &&
    reads [0b0101011011100001, 0b1000111001000111] (.xcall .eq 0x8E47) &&
    reads [0b0101011011110001] (.xretc .eq) &&
    reads [0b0111011001101101, 0b1000111001000111] (.lcr 0x2D8E47) &&
    reads [0b0000000000000110] .lretr) = true := by decide

theorem test_decode_control_2 : (
    reads [0b1111011010100111] (.rptImm 0xA7) &&
    reads [0b1111011110101001] (.rptLoc16 0xA9) &&
    reads [0b0010111001000101, 0b1000111001000111] (.loopnz 0x45 0x8E47) &&
    reads [0b0010110001000101, 0b1000111001000111] (.loopz 0x45 0x8E47) &&
    reads [0b0111011000100001] .idle &&
    reads [0b0000000000011011] (.intr 0xB) &&
    reads [0b0111011000010110] .intrNmi &&
    reads [0b0000000000110011] (.trap 0x13) &&
    reads [0b0111011000000010] .iret &&
    reads [0b0000000000000001] .aborti &&
    reads [0b0111011000111111, 0b1000111001000111] (.iack 0x8E47) &&
    reads [0b0111011000100101] .estop0 &&
    reads [0b0111011000100100] .estop1) = true := by decide

/-- The illegal words, and words no row of the table fits. -/
theorem test_decode_refuses : ([0x0000, 0xFFFF, 0x0002, 0x02FF].all fun w : BitVec 16 => !(decode [w]).isOk) = true := by
  decide

/-! ## The vectors of 95_test_vectors.md -/

theorem test_A1_add_acc_sxm :
    ends (exec (.addAccLoc16 0x00) { start with acc := 1, mem := word 0xFFFF, st0 := { start.st0 with sxm := true } })
      (fun t => t.acc == 0 && t.st0.c && t.st0.z && !t.st0.n) = true := by decide

theorem test_A2_add_overflow_counts :
    ends (exec (.addAccImmShl 0 1) { start with acc := 0x7FFFFFFF })
      (fun t => t.acc == 0x80000000 && t.st0.v && t.st0.ovc == 1 && !t.st0.c && t.st0.n && !t.st0.z) = true := by decide

theorem test_A4_ovc_wraps :
    ends (exec (.addAccImmShl 0 1) { start with acc := 0x7FFFFFFF, st0 := { start.st0 with ovc := 31 } })
      (fun t => t.st0.ovc == 0b100000) = true := by decide

theorem test_A5_add_shl16_keeps_carry :
    ends (exec (.addAccLoc16Shl16 0x00) { start with mem := word 1, st0 := { start.st0 with c := true } })
      (fun t => t.acc == 0x00010000 && t.st0.c) = true := by decide

theorem test_A7_add_shl16_sets_carry :
    ends (exec (.addAccLoc16Shl16 0x00) { start with acc := 0xFFFF0000, mem := word 1 })
      (fun t => t.acc == 0 && t.st0.c && t.st0.z) = true := by decide

theorem test_A6_sub_shl16_keeps_borrow :
    ends (exec (.subAccLoc16Shl16 0x00) { start with acc := 0x00020000, mem := word 1 })
      (fun t => t.acc == 0x00010000 && !t.st0.c) = true := by decide

theorem test_A8_addl_negative_overflow :
    ends (exec (.addlAcc 0x00) { start with acc := 0x80000000, mem := long 0x80000000 })
      (fun t => t.acc == 0 && t.st0.c && t.st0.v && t.st0.ovc == 63 && t.st0.z && !t.st0.n) = true := by decide

theorem test_A9_addl_saturates :
    ends (exec (.addlAcc 0x00) { start with acc := 0x80000000, mem := long 0x80000000, st0 := { start.st0 with ovm := true } })
      (fun t => t.acc == 0x80000000 && t.st0.c && t.st0.v && t.st0.ovc == 0 && t.st0.n && !t.st0.z) = true := by decide

theorem test_A10_subl_table_2_7 :
    ends (exec (.sublAcc 0x00) { start with acc := 0x7FFFFFFF, mem := long 0xFFFFFFFF })
      (fun t => t.acc == 0x80000000 && t.st0.n && t.st0.v && t.st0.ovc == 1 && !t.st0.c) = true := by decide

theorem test_A11_cmpl_table_2_7 :
    ends (exec (.cmplAcc 0x00) { start with acc := 0x7FFFFFFF, mem := long 0xFFFFFFFF })
      (fun t => !t.st0.n && !t.st0.z && !t.st0.c && !t.st0.v && t.st0.ovc == 0 && t.acc == 0x7FFFFFFF) = true := by decide

theorem test_A12_addcl :
    ends (exec (.addclAcc 0x00) { start with acc := 0xFFFFFFFF, st0 := { start.st0 with c := true } })
      (fun t => t.acc == 0 && t.st0.c && t.st0.z) = true := by decide

theorem test_A13_addcu :
    ends (exec (.addcuAcc 0x00) { start with acc := 0x0000FFFF, mem := word 1, st0 := { start.st0 with c := true } })
      (fun t => t.acc == 0x00010001 && !t.st0.c) = true := by decide

theorem test_A14_sbbu :
    ends (exec (.sbbuAcc 0x00) { start with acc := 0x00010000, mem := word 0xFFFF })
      (fun t => t.acc == 0 && t.st0.z && t.st0.c) = true := by decide

theorem test_A15_subbl :
    ends (exec (.subblAcc 0x00) { start with acc := 5, mem := long 2 })
      (fun t => t.acc == 2 && t.st0.c) = true := by decide

theorem test_A16_addul :
    ends (exec (.addulAcc 0x00) { start with acc := 0xFFFFFFFF, mem := long 2 })
      (fun t => t.acc == 1 && t.st0.c && t.st0.ovc == 1) = true := by decide

theorem test_A17_subul :
    ends (exec (.subulAcc 0x00) { start with mem := long 1 })
      (fun t => t.acc == 0xFFFFFFFF && !t.st0.c && t.st0.ovc == 0b111111) = true := by decide

theorem test_A18_addu_no_extension :
    ends (exec (.adduAcc 0x00) { start with mem := word 0x8000, st0 := { start.st0 with sxm := true } })
      (fun t => t.acc == 0x00008000 && !t.st0.n) = true := by decide

theorem test_A19_addb :
    ends (exec (.addbAcc 1) { start with acc := 0xFFFFFFFF })
      (fun t => t.acc == 0 && t.st0.c && t.st0.z) = true := by decide

theorem test_A20_sat_positive :
    ends (exec (.satAcc) { start with acc := 0x1234, st0 := { start.st0 with ovc := 2 } })
      (fun t => t.acc == 0x7FFFFFFF && t.st0.ovc == 0 && t.st0.v && !t.st0.c) = true := by decide

theorem test_A21_sat_negative :
    ends (exec (.satAcc) { start with acc := 5, st0 := { start.st0 with ovc := 0b111110 } })
      (fun t => t.acc == 0x80000000 && t.st0.ovc == 0 && t.st0.v && !t.st0.c && t.st0.n) = true := by decide

theorem test_A23_abs_most_negative :
    ends (exec (.absAcc) { start with acc := 0x80000000 })
      (fun t => t.acc == 0x80000000 && t.st0.v && !t.st0.c && t.st0.n) = true := by decide

theorem test_A24_abs_saturates :
    ends (exec (.absAcc) { start with acc := 0x80000000, st0 := { start.st0 with ovm := true } })
      (fun t => t.acc == 0x7FFFFFFF && t.st0.v && !t.st0.c && !t.st0.n) = true := by decide

theorem test_A25_neg_zero :
    ends (exec (.negAcc) start)
      (fun t => t.acc == 0 && t.st0.c && t.st0.z) = true := by decide

theorem test_A26_neg_one :
    ends (exec (.negAcc) { start with acc := 1 })
      (fun t => t.acc == 0xFFFFFFFF && !t.st0.c && t.st0.n) = true := by decide

theorem test_A27_abstc :
    ends (exec (.abstcAcc) { start with acc := 0xFFFFFFFB })
      (fun t => t.acc == 5 && t.st0.tc && !t.st0.c) = true := by decide

theorem test_A28_negtc_idle :
    ends (exec (.negtcAcc) { start with acc := 5, st0 := { start.st0 with c := true, v := true } })
      (fun t => t.acc == 5 && t.st0.c && t.st0.v) = true := by decide

theorem test_A29_neg64 :
    ends (exec (.neg64AccP) { start with p := 1 })
      (fun t => t.acc == 0xFFFFFFFF && t.p == 0xFFFFFFFF && t.st0.n && !t.st0.c) = true := by decide

theorem test_A30_test :
    ends (exec (.testAcc) start)
      (fun t => t.st0.z && !t.st0.n) = true := by decide

theorem test_A31_zapa :
    ends (exec (.zapa) { start with acc := 7, p := 9, st0 := { start.st0 with ovc := 5 } })
      (fun t => t.acc == 0 && t.p == 0 && t.st0.ovc == 0) = true := by decide

theorem test_A32_subcu_shift :
    ends (exec (.subcu 0x00) { start with acc := 7, mem := word 2 })
      (fun t => t.acc == 0x0E && !t.st0.c) = true := by decide

theorem test_A33_subcu_subtract :
    ends (exec (.subcu 0x00) { start with acc := 0x00010000, mem := word 2 })
      (fun t => t.acc == 1 && t.st0.c) = true := by decide

theorem test_A34_subcul :
    ends (exec (.subcul 0x00) { start with p := 0x80000000, mem := long 1 })
      (fun t => t.acc == 0 && t.p == 1 && t.st0.c) = true := by decide

theorem test_A35_norm_moves :
    ends (exec (.normXarInc .xar2) { start with acc := 1, st0 := { start.st0 with tc := true } })
      (fun t => t.acc == 2 && t.xar.x2 == 1 && !t.st0.tc) = true := by decide

theorem test_A36_norm_done :
    ends (exec (.normXarInc .xar2) { start with acc := 0x40000000, xar := { XarFile.reset with x2 := 4 } })
      (fun t => t.acc == 0x40000000 && t.xar.x2 == 4 && t.st0.tc) = true := by decide

theorem test_A37_norm_zero :
    ends (exec (.normInd) start)
      (fun t => t.acc == 0 && t.st0.tc && t.st0.z) = true := by decide

theorem test_A38_csb_positive :
    ends (exec (.csb) { start with acc := 0x00FFFFFF })
      (fun t => t.t == 7 && !t.st0.tc) = true := by decide

theorem test_A39_csb_ones :
    ends (exec (.csb) { start with acc := 0xFFFFFFFF })
      (fun t => t.t == 31 && t.st0.tc && t.st0.n) = true := by decide

theorem test_A40_maxl :
    ends (exec (.maxlAcc 0x00) { start with acc := 0xFFFFFFFF, mem := long 3 })
      (fun t => t.acc == 3 && t.st0.n && !t.st0.z && t.st0.c) = true := by decide

theorem test_A41_minl :
    ends (exec (.minlAcc 0x00) { start with acc := 7, mem := long 3 })
      (fun t => t.acc == 3 && !t.st0.n && !t.st0.z && t.st0.c) = true := by decide

theorem test_A42_add_p :
    ends (exec (.addAccP) { start with acc := 1, p := 2, st0 := { start.st0 with pm := 1 } })
      (fun t => t.acc == 3) = true := by decide

theorem test_A43_add_p_shifted :
    ends (exec (.addAccP) { start with acc := 1, p := 2 })
      (fun t => t.acc == 5) = true := by decide

theorem test_A44_mov_p_shifted :
    ends (exec (.movAccP) { start with p := 0xC0000001, st0 := { start.st0 with pm := 2 } })
      (fun t => t.acc == 0xE0000000) = true := by decide

theorem test_A45_sat64 :
    ends (exec (.sat64AccP) { start with st0 := { start.st0 with ovc := 0b111111 } })
      (fun t => t.acc == 0x80000000 && t.p == 0 && t.st0.v && t.st0.ovc == 0) = true := by decide

theorem test_A46_addl_mem :
    ends (exec (.addlLoc32Acc 0x00) { start with acc := 3, mem := long 5 })
      (fun t => t.mem.word 0 == 8 && t.mem.word 1 == 0 && t.acc == 3) = true := by decide

theorem test_A47_subrl_mem :
    ends (exec (.subrlLoc32Acc 0x00) { start with acc := 9, mem := long 4 })
      (fun t => t.mem.word 0 == 5 && t.st0.c) = true := by decide

theorem test_W1_add_al :
    ends (exec (.addAxLoc16 .al 0x00) { start with acc := 0x7FFF, mem := word 1, st0 := { start.st0 with ovm := true } })
      (fun t => t.acc == 0x8000 && t.st0.v && t.st0.n && !t.st0.c && t.st0.ovc == 0) = true := by decide

theorem test_W2_add_mem :
    ends (exec (.addLoc16Ax .al 0x00) { start with acc := 1, mem := word 0xFFFF })
      (fun t => t.mem == [] && t.st0.c && t.st0.z) = true := by decide

theorem test_W3_add_mem_constant :
    ends (exec (.addLoc16Imm 0x00 1) { start with mem := word 0x7FFF })
      (fun t => t.mem.word 0 == 0x8000 && t.st0.v && t.st0.n && t.st0.ovc == 0) = true := by decide

theorem test_W4_addb_al :
    ends (exec (.addbAx .al 0xFA) { start with acc := 5 })
      (fun t => t.acc == 0xFFFF && !t.st0.c && t.st0.n) = true := by decide

theorem test_W5_sub_al :
    ends (exec (.subAxLoc16 .al 0x00) { start with mem := word 1 })
      (fun t => t.acc == 0xFFFF && !t.st0.c && t.st0.n) = true := by decide

theorem test_W6_sub_mem :
    ends (exec (.subLoc16Ax .al 0x00) { start with acc := 1, mem := word 0x8000 })
      (fun t => t.mem.word 0 == 0x7FFF && t.st0.v && t.st0.c && !t.st0.n) = true := by decide

theorem test_W7_inc_mem :
    ends (exec (.incLoc16 0x00) { start with mem := word 0xFFFF })
      (fun t => t.mem == [] && t.st0.c && t.st0.z) = true := by decide

theorem test_W8_dec_mem :
    ends (exec (.decLoc16 0x00) start)
      (fun t => t.mem.word 0 == 0xFFFF && !t.st0.c && t.st0.n) = true := by decide

theorem test_W9_cmp_table_2_7 :
    ends (exec (.cmpAxLoc16 .al 0x00) { start with acc := 0x8000, mem := word 1 })
      (fun t => t.st0.n && !t.st0.z && t.st0.c && !t.st0.v) = true := by decide

theorem test_W10_cmp_mem :
    ends (exec (.cmpLoc16Imm 0x00 5) { start with mem := word 5 })
      (fun t => t.st0.z && t.st0.c && !t.st0.n) = true := by decide

theorem test_W11_cmpb :
    ends (exec (.cmpbAx .al 0xFF) { start with acc := 0x0100 })
      (fun t => !t.st0.n && !t.st0.z && t.st0.c) = true := by decide

theorem test_W12_max :
    ends (exec (.maxAx .al 0x00) { start with acc := 0xFFFE, mem := word 1 })
      (fun t => t.acc == 1 && t.st0.n && t.st0.c) = true := by decide

theorem test_W13_neg_al :
    ends (exec (.negAx .al) { start with acc := 0x8000 })
      (fun t => t.acc == 0x8000 && t.st0.v && !t.st0.c && t.st0.n) = true := by decide

theorem test_W14_tbit :
    ends (exec (.tbitImm 15 0x00) { start with mem := word 0x8000 })
      (fun t => t.st0.tc) = true := by decide

theorem test_W15_tbit_t :
    ends (exec (.tbitT 0x00) { start with xt := 0x000F0000, mem := word 1 })
      (fun t => t.st0.tc) = true := by decide

theorem test_W16_tclr :
    ends (exec (.tclr 0 0x00) { start with mem := word 0x00FF })
      (fun t => t.st0.tc && t.mem.word 0 == 0x00FE) = true := by decide

theorem test_W17_tset :
    ends (exec (.tset 4 0x00) { start with st0 := { start.st0 with tc := true } })
      (fun t => !t.st0.tc && t.mem.word 0 == 0x0010) = true := by decide

theorem test_W18_cmpr1 :
    ends (exec (.cmpr1) { start with xar := { XarFile.reset with x2 := 5, x0 := 7 }, st1 := { start.st1 with arp := .xar2 } })
      (fun t => t.st0.tc) = true := by decide

theorem test_W19_cmpr0 :
    ends (exec (.cmpr0) { start with xar := { XarFile.reset with x2 := 5, x0 := 7 }, st0 := { start.st0 with tc := true }, st1 := { start.st1 with arp := .xar2 } })
      (fun t => !t.st0.tc) = true := by decide

theorem test_H1_lsl :
    ends (exec (.lslAccImm 0) { start with acc := 0x80000001 })
      (fun t => t.acc == 2 && t.st0.c) = true := by decide

theorem test_H2_lsl_t :
    ends (exec (.lslAccT) { start with acc := 0xFFFF, xt := 0x00040000, st0 := { start.st0 with c := true } })
      (fun t => t.acc == 0x000FFFF0 && !t.st0.c) = true := by decide

theorem test_H3_lsl_t_zero :
    ends (exec (.lslAccT) { start with acc := 5, xt := 0x00100000, st0 := { start.st0 with c := true } })
      (fun t => t.acc == 5 && !t.st0.c) = true := by decide

theorem test_H4_lsll :
    ends (exec (.lsllAccT) { start with acc := 3, xt := 0x001F0000 })
      (fun t => t.acc == 0x80000000 && t.st0.c) = true := by decide

theorem test_H5_sfr_signed :
    ends (exec (.sfrAccImm 15) { start with acc := 0x80000000, st0 := { start.st0 with sxm := true } })
      (fun t => t.acc == 0xFFFF8000 && !t.st0.c) = true := by decide

theorem test_H6_sfr_unsigned :
    ends (exec (.sfrAccImm 15) { start with acc := 0x80000000 })
      (fun t => t.acc == 0x00008000 && !t.st0.c) = true := by decide

theorem test_H7_lsrl :
    ends (exec (.lsrlAccT) { start with acc := 0x80000000, xt := 0x001F0000 })
      (fun t => t.acc == 1 && !t.st0.c) = true := by decide

theorem test_H8_asrl :
    ends (exec (.asrlAccT) { start with acc := 0x80000000, xt := 0x00240000 })
      (fun t => t.acc == 0xF8000000 && !t.st0.c) = true := by decide

theorem test_H9_rol :
    ends (exec (.rolAcc) { start with acc := 0x80000000 })
      (fun t => t.acc == 0 && t.st0.c) = true := by decide

theorem test_H10_ror :
    ends (exec (.rorAcc) { start with acc := 1, st0 := { start.st0 with c := true } })
      (fun t => t.acc == 0x80000000 && t.st0.c) = true := by decide

theorem test_H11_lsl_al :
    ends (exec (.lslAxImm .al 0) { start with acc := 0x8001 })
      (fun t => t.acc == 2 && t.st0.c) = true := by decide

theorem test_H12_lsr_al :
    ends (exec (.lsrAxImm .al 14) { start with acc := 0x8000 })
      (fun t => t.acc == 1 && !t.st0.c) = true := by decide

theorem test_H13_asr_al :
    ends (exec (.asrAxImm .al 0) { start with acc := 0x8000 })
      (fun t => t.acc == 0xC000 && !t.st0.c) = true := by decide

theorem test_H14_asr_ah_t :
    ends (exec (.asrAxT .ah) { start with acc := 0xFF000000, xt := 0x00140000 })
      (fun t => t.acc == 0xFFF00000 && !t.st0.c) = true := by decide

theorem test_H15_lsl64 :
    ends (exec (.lsl64Imm 0) { start with p := 0x80000000 })
      (fun t => t.acc == 1 && t.p == 0 && !t.st0.c) = true := by decide

theorem test_H16_lsl64_t :
    ends (exec (.lsl64T) { start with p := 1, xt := 0x003F0000 })
      (fun t => t.acc == 0x80000000 && t.p == 0 && !t.st0.c) = true := by decide

theorem test_H17_lsr64_t :
    ends (exec (.lsr64T) { start with acc := 0x80000000, xt := 0x003F0000 })
      (fun t => t.acc == 0 && t.p == 1 && !t.st0.c) = true := by decide

theorem test_H18_asr64_t :
    ends (exec (.asr64T) { start with acc := 0xFFFFFFFF, xt := 0x00200000 })
      (fun t => t.acc == 0xFFFFFFFF && t.p == 0xFFFFFFFF && !t.st0.c) = true := by decide

theorem test_X1_mpy :
    ends (exec (.mpyPT 0x00) { start with xt := 0xFFFF0000, mem := word 2 })
      (fun t => t.p == 0xFFFFFFFE) = true := by decide

theorem test_X2_mova :
    ends (exec (.mova 0x00) { start with acc := 1, p := 3, mem := word 9, st0 := { start.st0 with pm := 1 } })
      (fun t => t.t == 9 && t.acc == 4) = true := by decide

theorem test_X3_movs :
    ends (exec (.movs 0x00) { start with acc := 10, p := 3, st0 := { start.st0 with pm := 1 } })
      (fun t => t.acc == 7 && t.st0.c) = true := by decide

theorem test_X4_movp :
    ends (exec (.movp 0x00) { start with p := 4 })
      (fun t => t.acc == 8) = true := by decide

theorem test_X5_mpya :
    ends (exec (.mpyaPT 0x00) { start with acc := 1, p := 2, xt := 0x00030000, mem := word 4, st0 := { start.st0 with pm := 1 } })
      (fun t => t.acc == 3 && t.p == 12) = true := by decide

theorem test_X6_mpys :
    ends (exec (.mpysPT 0x00) { start with acc := 10, p := 2, xt := 0x00030000, mem := word 4, st0 := { start.st0 with pm := 1 } })
      (fun t => t.acc == 8 && t.p == 12) = true := by decide

theorem test_X7_sqra :
    ends (exec (.sqra 0x00) { start with mem := word 0xFFFD })
      (fun t => t.t == 0xFFFD && t.p == 9 && t.acc == 0) = true := by decide

theorem test_X8_mac :
    ends (exec (.macPma 0x00 0x0100) { start with p := 4, mem := (word 2).setWord 0x100 3, st0 := { start.st0 with pm := 1 } })
      (fun t => t.acc == 4 && t.t == 2 && t.p == 6) = true := by decide

theorem test_X9_dmac :
    ends (exec (.dmacXar7 0x00) { start with xar := { XarFile.reset with x7 := 0x100 }, mem := ((long 0x00020003).setWord 0x100 5).setWord 0x101 4, st0 := { start.st0 with pm := 1 } })
      (fun t => t.acc == 8 && t.p == 15 && t.xt == 0x00020003) = true := by decide

theorem test_X10_impyl :
    ends (exec (.impyl 0x00) { start with xt := 0x00010000, mem := long 0x00010001, st0 := { start.st0 with pm := 1 } })
      (fun t => t.p == 0x00010000) = true := by decide

theorem test_X11_impyal :
    ends (exec (.impyal 0x00) { start with acc := 0xFFFFFFFF, p := 1, xt := 2, mem := long 3, st0 := { start.st0 with pm := 1 } })
      (fun t => t.acc == 0 && t.st0.c && t.st0.ovc == 1 && t.p == 6) = true := by decide

theorem test_X12_impyxul :
    ends (exec (.impyxul 0x00) { start with xt := 0xFFFFFFFF, mem := long 0xFFFFFFFF, st0 := { start.st0 with pm := 1 } })
      (fun t => t.p == 1) = true := by decide

theorem test_X13_qmpyal :
    ends (exec (.qmpyal 0x00) { start with acc := 1, p := 2, xt := 0x40000000, mem := long 0x40000000, st0 := { start.st0 with pm := 1 } })
      (fun t => t.acc == 3 && t.p == 0x10000000) = true := by decide

theorem test_M1_mov_shifted :
    ends (exec (.movAccLoc16Shl 4 0x45) { start with sp := 0x0405, mem := Memory.setWord [] 0x400 0x8001, st0 := { start.st0 with sxm := true } })
      (fun t => t.acc == 0xFFF80010 && t.st0.n) = true := by decide

theorem test_M2_mov_constant :
    ends (exec (.movAccImmShl 8 0x1234) start)
      (fun t => t.acc == 0x00123400) = true := by decide

theorem test_M3_mov_acc :
    ends (exec (.movLoc16AccShl1 0x00) { start with acc := 0x00018001 })
      (fun t => t.mem.word 0 == 2) = true := by decide

theorem test_M4_movh_acc :
    ends (exec (.movhLoc16AccShl 3 0x00) { start with acc := 0x12345678 })
      (fun t => t.mem.word 0 == 0x2345) = true := by decide

theorem test_M5_mov_p :
    ends (exec (.movLoc16P 0x00) { start with p := 0x00018001 })
      (fun t => t.mem.word 0 == 2) = true := by decide

theorem test_M6_movh_p :
    ends (exec (.movhLoc16P 0x00) { start with p := 0x40008000 })
      (fun t => t.mem.word 0 == 0x8001) = true := by decide

theorem test_M7_mov_cond_true :
    ends (exec (.movLoc16AxCond .al .eq 0x00) { start with acc := 0x1234, st0 := { start.st0 with z := true } })
      (fun t => t.mem.word 0 == 0x1234) = true := by decide

theorem test_M8_mov_cond_false :
    ends (exec (.movLoc16AxCond .al .eq 0x00) { start with acc := 0x1234 })
      (fun t => t.mem == []) = true := by decide

theorem test_M9_movl_cond_clears_v :
    ends (exec (.movlLoc32AccCond .nov 0x00) { start with acc := 9, st0 := { start.st0 with v := true } })
      (fun t => t.mem == [] && !t.st0.v) = true := by decide

theorem test_M10_mov_ovc :
    ends (exec (.movOvcLoc16 0x00) { start with mem := word 0x8400 })
      (fun t => t.st0.ovc == 0b100001) = true := by decide

theorem test_M11_movu_ovc :
    ends (exec (.movuOvcLoc16 0x00) { start with mem := word 0x0041 })
      (fun t => t.st0.ovc == 1) = true := by decide

theorem test_M12_push :
    ends (exec (.pushXar2) { start with sp := 0x402, xar := { XarFile.reset with x2 := 0x00123456 } })
      (fun t => t.mem.word 0x402 == 0x3456 && t.mem.word 0x403 == 0x12 && t.sp == 0x404) = true := by decide

theorem test_M13_push_odd :
    ends (exec (.pushXar2) { start with sp := 0x403, xar := { XarFile.reset with x2 := 0x00123456 } })
      (fun t => t.mem.word 0x402 == 0x3456 && t.mem.word 0x403 == 0x12 && t.sp == 0x405) = true := by decide

theorem test_M14_push_halves :
    ends (exec (.pushAr1hAr0h) { start with xar := { XarFile.reset with x0 := 0x00110000, x1 := 0x00220000 } })
      (fun t => t.mem.word 0x400 == 0x11 && t.mem.word 0x401 == 0x22 && t.sp == 0x402) = true := by decide

theorem test_M15_push_ifr :
    ends (exec (.pushIfr) { start with ifr := 0x20 })
      (fun t => t.mem.word 0x400 == 0x20 && t.sp == 0x401) = true := by decide

theorem test_M16_asp_odd :
    ends (exec (.asp) { start with sp := 0x403 })
      (fun t => t.sp == 0x404 && t.st1.spa) = true := by decide

theorem test_M17_asp_even :
    ends (exec (.asp) { start with sp := 0x404, st1 := { start.st1 with spa := true } })
      (fun t => t.sp == 0x404 && !t.st1.spa) = true := by decide

theorem test_M18_nasp :
    ends (exec (.nasp) { start with sp := 0x404, st1 := { start.st1 with spa := true } })
      (fun t => t.sp == 0x403 && !t.st1.spa) = true := by decide

theorem test_M19_or_ier :
    ends (exec (.orIer 0x10) { start with ier := 1 })
      (fun t => t.ier == 0x11) = true := by decide

theorem test_M20_and_ifr :
    ends (exec (.andIfr 0) { start with ifr := 0xFFFF })
      (fun t => t.ifr == 0) = true := by decide

theorem test_M21_c28obj :
    ends (exec (.setcObjmode) { start with st1 := { start.st1 with objmode := false } })
      (fun t => t.st1Word == 0x0A0B) = true := by decide

theorem test_M22_clrc_intm :
    ends (exec (.clrcMode 0x10) start)
      (fun t => t.st1Word == 0x0A0A) = true := by decide

theorem test_M23_pread :
    ends (exec (.pread 0x00) { start with xar := { XarFile.reset with x7 := 0x003F8000 }, mem := Memory.setWord [] 0x3F8000 0xBEEF })
      (fun t => t.mem.word 0 == 0xBEEF) = true := by decide

theorem test_K1_b_taken :
    ends (exec (.b .eq 0x0010) { start with pc := 0x8000, st0 := { start.st0 with z := true } })
      (fun t => t.pc == 0x8010) = true := by decide

theorem test_K2_b_not_taken :
    ends (exec (.b .eq 0x0010) { start with pc := 0x8000 })
      (fun t => t.pc == 0x8002) = true := by decide

theorem test_K4_sb :
    ends (exec (.sb .unc 0xFE) { start with pc := 0x8000 })
      (fun t => t.pc == 0x7FFE) = true := by decide

theorem test_K5_banz_taken :
    ends (exec (.banz .xar1 0xFFF0) { start with pc := 0x8010, xar := { XarFile.reset with x1 := 2 } })
      (fun t => t.pc == 0x8000 && t.xar.x1 == 1) = true := by decide

theorem test_K6_banz_done :
    ends (exec (.banz .xar1 0xFFF0) { start with pc := 0x8010 })
      (fun t => t.pc == 0x8012 && t.xar.x1 == 0xFFFF) = true := by decide

theorem test_K7_bar :
    ends (exec (.barEq .xar0 .xar1 8) { start with pc := 0x200, xar := { XarFile.reset with x0 := 5, x1 := 5 } })
      (fun t => t.pc == 0x208) = true := by decide

theorem test_K8_lcr :
    ends (exec (.lcr 0x009000) { start with pc := 0x8000, rpc := 0x3F1234 })
      (fun t => t.mem.word 0x400 == 0x1234 && t.mem.word 0x401 == 0x3F && t.sp == 0x402 && t.rpc == 0x8002 && t.pc == 0x9000) = true := by decide

theorem test_K9_lretr :
    ends (exec (.lretr) { start with pc := 0x9000, rpc := 0x8002, sp := 0x402, mem := (Memory.setWord [] 0x400 0x1234).setWord 0x401 0x3F })
      (fun t => t.pc == 0x8002 && t.rpc == 0x3F1234 && t.sp == 0x400) = true := by decide

theorem test_K10_xcall :
    ends (exec (.xcall .unc 0x9000) { start with pc := 0x3F8000 })
      (fun t => t.mem.word 0x400 == 0x8002 && t.sp == 0x401 && t.pc == 0x3F9000) = true := by decide

theorem test_K13_trap :
    ends (exec (.trap 1) { start with pc := 0x8000, mem := Memory.setWord [] 0x3FFFC2 0x0100 })
      (fun t => t.mem.word 0x40C == 0x8001 && t.mem.word 0x40D == 0 && t.mem.word 0x408 == 0x0A0B && t.sp == 0x40F && t.pc == 0x100 && t.st1.intm && t.st1.dbgm) = true := by decide

theorem test_K14_intr :
    ends (exec (.intr 1) { start with ier := 1, ifr := 1 })
      (fun t => t.ifr == 0 && t.ier == 0 && t.mem.word 0x40A == 1) = true := by decide

theorem test_K15_aborti :
    ends (exec (.aborti) { start with st1 := { start.st1 with dbgm := false } })
      (fun t => t.st1.dbgm) = true := by decide

/-! ## Steps: fetch, reset, interrupts (I1 to I9 of the vectors) -/

/-- A state about to run the words at 0x8000. -/
def fetching (w v : Word) : State :=
  { start with pc := 0x8000, mem := (Memory.setWord [] 0x8000 w).setWord 0x8001 v }

theorem test_I1_maskable_entry :
    ends (step { start with
      pc := 0x8123, sp := 0x401, ier := 0x10, ifr := 0x10, st1 := { start.st1 with intm := false }
      mem := (Memory.setWord [] 0x3FFFCA 0x9000).setWord 0x3FFFCB 0x003F })
      (fun t => t.ifr == 0 && t.ier == 0 && t.sp == 0x410 && t.pc == 0x3F9000 && t.st1.intm && t.st1.dbgm &&
        t.mem.word 0x40C == 0x10 && t.mem.word 0x40E == 0x8123 && t.mem.word 0x40F == 0) = true := by decide

theorem test_I3_masked :
    nextEvent { start with ifr := 0x10, ier := 0x10 } = .run := by decide

theorem test_I4_priority :
    nextEvent { start with ifr := 0x11, ier := 0x11, st1 := { start.st1 with intm := false } } = .maskable 0 := by decide

theorem test_rtosint_before_int1 :
    nextEvent { start with ifr := 0x8001, ier := 0x8001, st1 := { start.st1 with intm := false } } = .maskable 15 := by
  decide

theorem test_I7_reset :
    ends (step { start with resetRequest := true, acc := 7, ifr := 3, mem := Memory.setWord [] 0x3FFFC1 0x3F })
      (fun t => t.pc == 0x3F0000 && t.st1Word == 0x080B && t.sp == 0x400 && t.acc == 0 && t.ifr == 0) = true := by decide

theorem test_I8_illegal_word :
    ends (step (fetching 0x0000 0)) (fun t => t.mem.word 0x40C == 0x8001 && t.pc == 0 && t.sp == 0x40F) = true := by
  decide

theorem test_I9_loc_field_traps :
    ends (step { fetching 0x8100 0 with st1 := { start.st1 with page0 := true, amode := true } })
      (fun t => t.mem.word 0x40C == 0x8001 && t.acc == 0 && t.sp == 0x40F) = true := by decide

theorem test_iret_after_trap :
    ends (exec .iret { start with
      sp := 0x40F, mem := ((Memory.setWord [] 0x40C 0x8004).setWord 0x408 0x0A0A).setWord 0x400 0x0021 })
      (fun t => t.pc == 0x8004 && t.sp == 0x400 && t.st0Word == 0x0021 && t.st1Word == 0x0A0A) = true := by decide

/-- P4: one of the repetitions; the instruction runs again. -/
theorem test_repetition :
    ends (step { fetching 0x1F00 0 with repeating := true, rptc := 2 })
      (fun t => t.pc == 0x8000 && t.rptc == 1 && t.repeating) = true := by decide

theorem test_last_repetition :
    ends (step { fetching 0x1F00 0 with repeating := true, rptc := 0 })
      (fun t => t.pc == 0x8001 && t.rptc == 0 && !t.repeating) = true := by decide

theorem test_idle_waits :
    step { start with st1 := { start.st1 with idlestat := true } } =
      .next { start with st1 := { start.st1 with idlestat := true } } := rfl

theorem test_c27x_refused : refuses (step { State.reset with resetRequest := false }) .c27xObjectMode = true := by decide

theorem test_stale_fetch_refused :
    refuses (step { fetching 0x5633 0 with stores := [⟨0x8000, false, 0⟩] }) (.staleFetch 0x8000) = true := by decide

/-- A table word placed after reset is the first instruction to run: ADDB ACC,#3, and the two-word LCR. -/
theorem test_withFetchWord :
    ends (step (State.reset.withFetchWord 16 0x0903)) (fun t => t.acc == 3 && t.pc == 0x3FFFC1) = true := by decide

theorem test_withFetchWord_two_words :
    ends (step (State.reset.withFetchWord 32 0x76408010)) (fun t => t.pc == 0x8010 && t.rpc == 0x3FFFC2) = true := by
  decide

/-! ## Witnesses: states and operands that meet the hypotheses of each statement -/

/-- A word operand at data address 0. -/
def five : State := { start with mem := word 5 }

/-- A mode in which every `loc` field traps. -/
def trapping : State := { start with st1 := { start.st1 with page0 := true, amode := true } }

theorem witness_DecodeOfEncode :
    [Instr.movArx .xar5 0xBD, .mova 0xAB, .movLoc16Ier 0xBE, .lcr 0x3FFFFF].all Instr.wellFormed = true := by decide

theorem witness_DecodedIsWellFormed : reads [0x56, 0x0000] (.trap 0) = false ∧ reads [0x3B0F] (.setcMode 0x0F) = true ∧
    reads [0x7640, 0x8010] (.lcr 0x8010) = true := by decide

theorem witness_StepRunsDecoded :
    (nextEvent (fetching 0x5633 0) = .run ∧ (fetching 0x5633 0).repeating = false ∧
      Fetched (fetching 0x5633 0) .zapa) ∧ Fetched (fetching 0x7640 0x8010) (.lcr 0x8010) :=
  ⟨⟨rfl, rfl, rfl, rfl, ⟨[0], rfl⟩, by decide⟩, rfl, rfl, ⟨[], rfl⟩, by decide⟩

/-- A repeat of SUBCU, of the trapping SUBCU, and of an instruction that is not repeatable. -/
theorem witness_StepRepeatsUnderRpt :
    (nextEvent { fetching 0x1F00 0 with repeating := true, rptc := 0xFFFF } = .run ∧
      Fetched { fetching 0x1F00 0 with repeating := true, rptc := 0xFFFF } (.subcu 0x00) ∧
      ends (exec (.subcu 0x00) { fetching 0x1F00 0 with repeating := true }) (·.repeating) = true ∧
      ends (exec (.subcu 0x00) { trapping with repeating := true }) (!·.repeating) = true) ∧
    repeatable (.subcu 0x00) = true ∧ repeatable .zapa = false ∧
    Fetched { fetching 0x5633 0 with repeating := true, rptc := 0 } .zapa :=
  ⟨⟨rfl, ⟨rfl, rfl, ⟨[0], rfl⟩, by decide⟩, by decide, by decide⟩, rfl, rfl, rfl, rfl, ⟨[0], rfl⟩, by decide⟩

theorem witness_BoundaryChoosesByPriority :
    nextEvent State.reset = .reset ∧ nextEvent { start with isrStart := true, nmiPending := true } = .run ∧
    nextEvent { start with repeating := true, nmiPending := true } = .run ∧
    nextEvent { start with nmiPending := true, ifr := 1, ier := 1 } = .nmi ∧
    nextEvent { start with ifr := 0x4000, ier := 0x4000, st1 := { start.st1 with intm := false } } = .maskable 14 ∧
    nextEvent { start with ifr := 0x8000, ier := 0x8000, st1 := { start.st1 with idlestat := true } } = .run ∧
    nextEvent { start with ifr := 0x8000, ier := 0x7FFF, st1 := { start.st1 with idlestat := true } } = .wait ∧ start.described := by
  unfold State.described; decide

/-- The cleared mode bits, also where an NMI is pending or the CPU idles; C28OBJ, also under RPT; an unlisted first
and second word; a stored first and second word. -/
theorem witness_UndescribedFetchesRefused :
    nextEvent { start with nmiPending := true, st1 := { start.st1 with m0m1map := false } } = .nmi ∧
    nextEvent { start with st1 := { start.st1 with objmode := false, amode := true, idlestat := true } } = .wait ∧
    (nextEvent { start with st1 := { start.st1 with objmode := false } } = .run ∧
      (fetching 0x561F 0).mem.word 0x8000 = 0x561F ∧ start.mem.word 0x3FFFC0 ≠ 0x561F#16) ∧
    (nextEvent { fetching 0x561F 0 with repeating := true, st1 := { start.st1 with objmode := false } } = .run ∧
      ends (step { fetching 0x561F 0 with
        repeating := true, rptc := 3, rptAddr := some 1, st1 := { start.st1 with objmode := false } })
        (fun t => !t.repeating && t.rptc == 0 && t.rptAddr == none && t.st1.objmode) = true) ∧
    (nextEvent (fetching 0x02FF 0) = .run ∧ (fetching 0x02FF 0).mem.word 0x8000 = 0x02FF ∧
      decode [0x02FF] = .error (.unlistedWord 0x02FF)) ∧
    (nextEvent (fetching 0x5602 0x0100) = .run ∧ (fetching 0x5602 0x0100).mem.word 0x8000 = 0x5602 ∧
      (fetching 0x5602 0x0100).mem.word 0x8001 = 0x0100 ∧
      decode [0x5602] = .error (.secondWordMissing 0x5602) ∧
      decode [0x5602, 0x0100] = .error (.unlistedSecondWord 0x5602 0x0100)) ∧
    (∃ k ∈ [AccessMark.mk 0x8000 true 0], k.word = 0x8000) ∧
    ((∀ k ∈ [AccessMark.mk 0x8001 true 0], k.word ≠ 0x8000) ∧ ∃ k ∈ [AccessMark.mk 0x8001 true 0], k.word = 0x8001) :=
  by decide

theorem witness_ResetSequenceTaken : State.reset.resetRequest = true := rfl

/-- The context may be saved just below and just above the emulation registers, and not where it would reach them. -/
theorem witness_canSave : State.canSave { start with sp := 0x7F2 } ∧ State.canSave { start with sp := 0x9FF } ∧
    ¬ State.canSave { start with sp := 0x7F3 } ∧ ¬ State.canSave { start with sp := 0x9FE } := by
  unfold State.canSave; decide

theorem witness_HardwareInterruptEntry :
    State.canSave { start with ifr := 1, ier := 1, st1 := { start.st1 with intm := false } } ∧
    nextEvent { start with ifr := 1, ier := 1, st1 := { start.st1 with intm := false } } = .maskable 0 ∧
    nextEvent { start with nmiPending := true } = .nmi ∧ start.described := by
  unfold State.canSave State.described; decide

theorem witness_SoftwareInterruptEntry : start.canSave ∧ (1 : BitVec 4) ≠ 0 ∧ (15 : BitVec 4) ≠ 0 := by
  unfold State.canSave; decide

/-- Clause 1: both words. -/
theorem witness_IllegalInstructionTraps_words :
    ((fetching 0 0).canSave ∧ nextEvent (fetching 0 0) = .run ∧ (fetching 0 0).st1.objmode = true ∧
      (fetching 0 0).st1.m0m1map = true ∧ (∀ k ∈ (fetching 0 0).stores, k.word ≠ (fetching 0 0).pc.toNat) ∧
      (fetching 0 0).mem.word 0x8000 = 0) ∧ (fetching 0xFFFF 0).mem.word 0x8000 = 0xFFFF := by
  unfold State.canSave; decide

/-- Clause 2: both causes. -/
theorem witness_IllegalInstructionTraps_loc :
    trapping.canSave ∧ locOperand (.addAccLoc16 0x00) = some (.word, 0x00) ∧
    (trapping.st1.page0 = true ∧ trapping.st1.amode = true) ∧ locOperand (.addlAcc 0xAD) = some (.long, 0xAD) := by
  unfold State.canSave; decide

theorem witness_IretUndoesTrap :
    start.canSave ∧ ends (exec (.trap 31) start) (fun _ => true) = true ∧
    ends (exec (.trap 31) { start with sp := 0x401 }) (fun _ => true) = true := by
  unfold State.canSave; decide

theorem witness_IretLoadsStackedContext :
    ∀ k < 14, ¬ (0x800 ≤ ((((0x40F#16 - 14) &&& 0xFFFE#16) + BitVec.ofNat 16 k).toNat) ∧
        ((((0x40F#16 - 14) &&& 0xFFFE#16) + BitVec.ofNat 16 k).toNat) ≤ 0x9FF) ∧
      State.unordered { start with sp := 0x40F } (((0x40F#16 - 14) &&& 0xFFFE#16) + BitVec.ofNat 16 k).toNat false
        = false := by decide

theorem witness_StepKeepsInv :
    State.Inv State.reset ∧ ends (step State.reset) (fun _ => true) = true :=
  ⟨⟨by decide, by decide, by decide, by decide, by decide, by decide, rfl⟩, by decide⟩

theorem witness_SystemRegisterWriters :
    ends (exec .lretr { start with rpc := 5 }) (·.rpc != 5) = true ∧
    ends (exec (.lcr 1) start) (·.rpc != 0) = true ∧
    ends (exec .popDbgier { start with sp := 1, mem := word 7 }) (·.dbgier != 0) = true ∧
    ends (exec (.orIfr 1) start) (·.ifr != 0) = true ∧ ends (exec (.intr 1) { start with ifr := 1 }) (·.ifr != 1) = true ∧
    ends (exec (.movIerLoc16 0x00) five) (·.ier != 0) = true ∧ ends (exec .iret { start with dp := 1 }) (·.dp != 1) = true ∧
    ends (exec (.iack 5) start) (·.acks == [5]) = true := by decide

theorem witness_St0FieldWriters :
    ends (exec .satAcc { start with st0 := { start.st0 with v := true } }) (!·.st0.v) = true ∧
    ends (exec (.b .nov 0) { start with st0 := { start.st0 with v := true } }) (!·.st0.v) = true ∧
    ends (exec (.tbitT 0x00) { start with xt := 0xF0000, mem := word 1 }) (·.st0.tc) = true ∧
    ends (exec (.setcMode 0x03) start) (fun t => t.st0.ovm && t.st0.sxm) = true ∧
    ends (exec (.spm 5) start) (·.st0.pm == 5) = true := by decide

theorem witness_St1FieldWriters :
    ends (exec .clrcObjmode start) (!·.st1.objmode) = true ∧ ends (exec .setcAmode start) (·.st1.amode) = true ∧
    ends (exec .setcXf start) (·.st1.xf) = true ∧
    ends (exec .popSt1 { start with sp := 1 }) (!·.st1.m0m1map) = true ∧
    ends (exec (.clrcMode 0xB0) start) (fun t => !t.st1.vmap && !t.st1.intm && !t.st1.dbgm) = true ∧
    ends (exec .asp { start with sp := 1 }) (·.st1.spa) = true ∧
    ends (exec (.loopnz 0x00 4) five) (·.st1.loop) = true ∧ ends (exec .idle start) (·.st1.idlestat) = true ∧
    ends (exec .eallow start) (·.st1.eallow) = true := by decide

theorem witness_DirectStackCurrentModes :
    start.st1.amode = false ∧ start.st1.page0 = false ∧ trapping.st1.amode = true ∧ trapping.st1.page0 = true := by
  decide

/-- The modes under both values of AMODE; the circular pointer at its bound and not. -/
theorem witness_NamedRegisterModes :
    start.st1.amode = false ∧ (start.arOf .xar6).extractLsb' 0 8 = (start.arOf .xar1).extractLsb' 0 8 ∧
    (State.arOf { start with xar := { XarFile.reset with x6 := 0xFF } } .xar6).extractLsb' 0 8 ≠
      (State.arOf { start with xar := { XarFile.reset with x6 := 0xFF } } .xar1).extractLsb' 0 8 ∧
    trapping.st1.amode = true ∧
    resolve .word 0x87 trapping = .ok (.mem 0,
      { trapping with xar := { XarFile.reset with x7 := 1 }, st1 := { trapping.st1 with arp := .xar7 } }) :=
  ⟨rfl, rfl, by decide, rfl, rfl⟩

theorem witness_RegisterModes : XReg.xar0 ≠ XReg.xar7 := by decide

/-- A word and a long word in memory, a register operand, and the edges of the emulation registers. -/
theorem witness_OpenOperandsAreReadable :
    Selects .word five 0x00 (.mem 0) five ∧ five.dataAccess 0 = .ok () ∧ five.unordered 0 false = false ∧
    Selects .long five 0x01 (.mem 1) five ∧ Place.Open32 five (.mem 1) ∧ five.unordered 1 false = false ∧
    Selects .word five 0xAD (.reg .sp) five ∧ Selects .long five 0xA7 (.reg (.ar .xar7)) five ∧
    five.dataAccess 0x7FF = .ok () ∧ five.dataAccess 0xA00 = .ok () ∧
    readData five 0x800 = .error (.emulationRegister 0x800) ∧
    readData five 0x9FF = .error (.emulationRegister 0x9FF) :=
  ⟨⟨rfl, rfl⟩, rfl, rfl, ⟨rfl, rfl⟩, ⟨⟨rfl, rfl⟩, rfl, rfl⟩, rfl, ⟨rfl, rfl⟩, ⟨rfl, rfl⟩, rfl, rfl, rfl, rfl⟩

theorem witness_OperandFrame :
    Selects .word start 0xBD (.mem 0x400) { start with sp := 0x401 } ∧
    Selects .long start 0xBE (.mem 0x3FE) { start with sp := 0x3FE } ∧
    Selects .word start 0x87 (.mem 0)
      { start with xar := { XarFile.reset with x7 := 1 }, st1 := { start.st1 with arp := .xar7 } } :=
  ⟨⟨rfl, rfl⟩, ⟨rfl, rfl⟩, ⟨rfl, rfl⟩⟩

theorem witness_LongWriteReadBack :
    start.Inv ∧ (∃ t, writeData32 start 0x83 0x12345678 = .ok t) ∧ evenAddr (0x82 : DataAddr) = evenAddr 0x83 :=
  ⟨⟨by decide, by decide, by decide, by decide, by decide, by decide, rfl⟩, ⟨_, rfl⟩, by decide⟩

/-- A write of either space, at the last word of M1; marks of reads by either space; a word and a long operand that
is read; XAR7 at 0. -/
theorem witness_SpacesShareStorage :
    start.st1.m0m1map = true ∧ (∃ t, writeProg start 0x7FF 5 = .ok t ∧ t.dataAccess 0x7FF = .ok ()) ∧
    readProg five 0 = .ok 5 ∧ (∃ t, writeData start 0x7FF 5 = .ok t) ∧
    (AccessMark.mk 0x7FF true start.icount ∈ State.reads { start with reads := [⟨0x7FF, true, 0⟩, ⟨0, false, 0⟩] } ∧
      AccessMark.mk 0 false start.icount ∈ State.reads { start with reads := [⟨0x7FF, true, 0⟩, ⟨0, false, 0⟩] } ∧
      start.dataAccess 0x7FF = .ok ()) ∧
    (storesOnly (.addAccLoc16 0x00) = false ∧ locOperand (.addAccLoc16 0x00) = some (.word, 0x00) ∧
      Selects .word five 0x00 (.mem 0) five) ∧
    (storesOnly (.addlAcc 0x01) = false ∧ locOperand (.addlAcc 0x01) = some (.long, 0x01) ∧
      Selects .long five 0x01 (.mem 1) five) ∧
    five.repeating = false ∧ (five.xarOf .xar7).extractLsb' 0 22 = (0 : ProgAddr) :=
  ⟨rfl, ⟨_, rfl, rfl⟩, rfl, ⟨_, rfl⟩, ⟨by decide, by decide, rfl⟩, ⟨rfl, rfl, rfl, rfl⟩, ⟨rfl, rfl, rfl, rfl⟩, rfl, rfl⟩

/-- A state with AMODE = 1 whose `loc` fields do not trap. -/
def amode1 : State := { start with st1 := { start.st1 with amode := true } }

theorem witness_UndescribedFormsRefused :
    Selects .word start 0xA9 (.reg .al) start ∧ locTraps .word 0xA7 start = false ∧ start.locUsesXar7 0xA7 = true ∧
    locTraps .long 0x87 start = false ∧ start.locUsesXar7 0x87 = true ∧
    locOperand (.addlAcc 0xA8) = some (.long, 0xA8) ∧ locOperand (.movlLoc32AccCond .eq 0xAA) = some (.long, 0xAA) ∧
    (amode1.st1.page0 = false ∧ amode1.st1.amode = true ∧ BitVec.extractLsb' 6 2 (0xC0 : Loc) = 3 ∧
      BitVec.extractLsb' 6 2 (0xFF : Loc) = 3 ∧ locOperand (.macXar7 0xC7) = some (.word, 0xC7) ∧
      refuses (exec (.macXar7 0xC7) amode1) (.addressingMode 0xC7) = true ∧
      refuses (exec (.qmaclXar7 0xBF) amode1) (.addressingMode 0xBF) = true ∧
      refuses (exec (.pread 0xFF) amode1) (.addressingMode 0xFF) = true) :=
  ⟨⟨rfl, rfl⟩, by decide⟩

/-- R596: a write after the previous instruction's read, and after its write, through the other space: PWRITE at 0, then
MOV of ACC to the word 0; PREAD from 0, then the same store. -/
theorem test_unordered_write :
    refuses (exec (.movLoc16P 0x00) { start with stores := [⟨0, true, 4⟩], icount := 5 }) (.unorderedAccess 0) &&
    refuses (exec (.movLoc16P 0x00) { start with reads := [⟨0, true, 4⟩], icount := 5 }) (.unorderedAccess 0) &&
    ends (exec (.movLoc16P 0x00) { start with reads := [⟨0, true, 3⟩], icount := 5 }) (fun _ => true) = true := by decide

/-- R5: an undescribed mode stops an NMI entry too. -/
theorem test_undescribed_mode_nmi :
    refuses (step { start with nmiPending := true, st1 := { start.st1 with objmode := false, amode := true } })
      .unlistedOperatingMode = true := by decide

/-- Values on both sides of each case: both overflows, both OVM, shift counts 0 and the width, the most negative
numbers, and each sign of OVC. -/
theorem witness_alu_cases :
    (addAcc start.st0 0x7FFFFFFF 1 false).2.ovc = 1 ∧ (subAcc start.st0 0x80000000 1 false).2.ovc = 63 ∧
    (addAcc { start.st0 with ovm := true } 0x80000000 0xFFFFFFFF false).1 = 0x80000000 ∧
    (lsl start.st0 (0x8001 : Word) 16).2.c = true ∧ (lsl start.st0 (0x8001 : Word) 0).2.c = false ∧
    (asr start.st0 (0x8000 : Word) 16).1 = 0xFFFF ∧ pshift 5 true 1 = 16 ∧ pshift 5 false 0x80000000 = 0xF8000000 ∧
    pshift 7 true 64 = 1 ∧ pshift 2 false 2 = 1 ∧ (negOp start.st0 (BitVec.intMin 64)).2.v = true ∧
    (satOp { start.st0 with ovc := 32 } (5 : Long)).1 = 0x80000000 ∧
    (satOp { start.st0 with ovc := 31 } (5 : Quad)).1 = 0x7FFFFFFFFFFFFFFF := by decide

theorem witness_CompareFlags : (cmpFlags start.st0 (0x8000 : Word) 1).n = true ∧
    (cmpFlags start.st0 (0x80000000 : Long) 1).c = true := by decide

theorem witness_ProductShiftAndExtension : ({ start.st0 with sxm := true } : St0).sxm = true ∧ start.st0.sxm = false ∧
    2 ≤ (2 : BitVec 3).toNat ∧ ¬ ((7 : BitVec 3) = 5 ∧ true = true) ∧ ¬ ((5 : BitVec 3) = 5 ∧ false = true) := by decide

theorem witness_StepwiseDivisionAndSignCount : (7 : Word) ≠ 0 ∧ (7 : Long) ≠ 0 ∧ signBits 0x80000000 = 0 ∧
    signBits 0xFFFFFFFF = 31 ∧ signBits 0xFFFFFFFE = 30 := by decide

theorem witness_ModeAndRegisterResults :
    (0x403 : Word).toNat % 2 = 1 ∧ (0x404 : Word).toNat % 2 = 0 ∧ start.st1.spa = false ∧
    State.reset.st1.spa = false ∧ ({ start.st1 with spa := true } : St1).spa = true := by decide

theorem witness_AccAddSubWordResults : Reads16 five 0x00 5 five := ⟨rfl, rfl⟩

/-- A long operand, with the partial remainder equal to it (the edge of the subtraction) and one below. -/
theorem witness_AccLongResults :
    Reads32 { five with acc := 2, p := 0x80000000 } 0x00 5 { five with acc := 2, p := 0x80000000 } ∧
    0 ≤ (2 * (2#32).toNat + (0x80000000#32).msb.toNat - (5#32).toNat : Int) ∧
    Reads32 { five with acc := 2 } 0x00 5 { five with acc := 2 } ∧
    (2 * (2#32).toNat + (0#32).msb.toNat - (5#32).toNat : Int) < 0 := ⟨⟨rfl, rfl⟩, by decide, ⟨rfl, rfl⟩, by decide⟩

theorem witness_LongDestinationResults :
    Selects .long five 0x01 (.mem 1) five ∧ readPlace32 five (.mem 1) = .ok 5 ∧ Place.Open32 five (.mem 1) ∧
    Selects .long five 0xAB (.reg .pl) five ∧ readPlace32 five (.reg .pl) = .ok 0 ∧ Place.Open32 five (.reg .pl) :=
  ⟨⟨rfl, rfl⟩, rfl, ⟨⟨rfl, rfl⟩, rfl, rfl⟩, ⟨rfl, rfl⟩, rfl, trivial⟩

theorem witness_AccConstantAndProductResults :
    ¬ (start.st1.page0 = true ∧ start.st1.amode = true) ∧
    ¬ (({ trapping.st1 with page0 := false } : St1).page0 = true ∧ trapping.st1.amode = true) := by decide

theorem witness_AccUnaryAndNormResults :
    (0xC0000000 : Long).getLsbD 31 = (0xC0000000 : Long).getLsbD 30 ∧ (0xC0000000 : Long) ≠ 0 ∧
    (0x40000000 : Long).getLsbD 31 ≠ (0x40000000 : Long).getLsbD 30 ∧ start.acc = 0 ∧ start.st0.tc = false ∧
    ({ start.st0 with tc := true } : St0).tc = true := by decide

theorem witness_WordOperandResults :
    Reads16 { five with acc := 0x28000 } 0x00 5 { five with acc := 0x28000 } ∧
    0 ≤ (2 * (0x28000#32).toNat - (5#16).toNat * 2 ^ 16 : Int) ∧
    Reads16 { five with acc := 0x27FFF } 0x00 5 { five with acc := 0x27FFF } ∧
    (2 * (0x27FFF#32).toNat - (5#16).toNat * 2 ^ 16 : Int) < 0 := ⟨⟨rfl, rfl⟩, by decide, ⟨rfl, rfl⟩, by decide⟩

theorem witness_WordUpdateResults :
    Selects .word five 0x00 (.mem 0) five ∧ readPlace16 five (.mem 0) = .ok 5 ∧ Place.Open16 five (.mem 0) ∧
    Selects .word five 0xA8 (.reg .ah) five ∧ readPlace16 five (.reg .ah) = .ok 0 ∧ Place.Open16 five (.reg .ah) :=
  ⟨⟨rfl, rfl⟩, rfl, ⟨rfl, rfl⟩, ⟨rfl, rfl⟩, rfl, trivial⟩

theorem witness_ShiftResults : start.st0.sxm = false ∧ ({ start.st0 with sxm := true } : St0).sxm = true := by decide

theorem witness_WordMultiplyResults : Reads16 five 0x00 5 five := ⟨rfl, rfl⟩

/-- A later repetition: the temporary address has moved on to 2. -/
def later : State := { five with repeating := true, rptAddr := some 2 }

/-- The first multiply-accumulate of a repeat, a later one, and one outside a repeat. -/
theorem witness_ProgramWordMacResults :
    Reads16 five 0x00 5 five ∧ readProg five 0 = .ok 5 ∧ five.locUsesXar7 0x00 = false ∧
    (five.xar.get .xar7).extractLsb' 0 22 = (0 : ProgAddr) ∧
    Reads16 { five with repeating := true, rptAddr := some 1 } 0x00 5 { five with repeating := true, rptAddr := some 1 } ∧
    readProg { five with repeating := true, rptAddr := some 1 } 1 = .ok 0 ∧
    readProg five 0x3F0000 = .ok 0 := ⟨⟨rfl, rfl⟩, rfl, rfl, rfl, ⟨rfl, rfl⟩, rfl, rfl⟩

theorem witness_DataMoveResults :
    (Selects .word five 0x00 (.mem 0) five ∧ readData five 0 = .ok 5 ∧ Place.Open16 five (.mem (0 + 1)) ∧
      readProg five 0x3F0000 = .ok 0 ∧ five.repeating = false) ∧
    Selects .word later 0x00 (.mem 0) later ∧ readData later 0 = .ok 5 ∧ Place.Open16 later (.mem (0 + 1)) ∧
    readProg later 2 = .ok 0 ∧ (if later.repeating then later.rptAddr.getD 0x3F0000 else 0x3F0000) = (2 : ProgAddr) :=
  ⟨⟨⟨rfl, rfl⟩, rfl, ⟨rfl, rfl⟩, rfl, rfl⟩, ⟨rfl, rfl⟩, rfl, ⟨rfl, rfl⟩, rfl, rfl⟩

theorem witness_ProgramLongMacResults :
    (Reads32 five 0x00 5 five ∧ readProg32 five 0 = .ok 5 ∧ five.locUsesXar7 0x00 = false ∧
      (five.xar.get .xar7).extractLsb' 0 22 = (0 : ProgAddr)) ∧
    Reads32 later 0x00 5 later ∧ readProg32 later 2 = .ok 0 ∧ later.locUsesXar7 0x00 = false ∧
    (if later.repeating then later.rptAddr.getD 0 else 0) = (2 : ProgAddr) :=
  ⟨⟨⟨rfl, rfl⟩, rfl, rfl, rfl⟩, ⟨rfl, rfl⟩, rfl, rfl, rfl⟩

theorem witness_LongMultiplyResults : Reads32 five 0x01 5 five := ⟨rfl, rfl⟩

theorem witness_WordLoadAndLoopResults :
    Reads16 five 0x00 5 five ∧ (5 : Word) &&& 4 ≠ 0 ∧ (5 : Word) &&& 2 = 0 := ⟨⟨rfl, rfl⟩, by decide, by decide⟩

theorem witness_WordStoreResults :
    Selects .word five 0x00 (.mem 0) five ∧ Place.Open16 five (.mem 0) ∧ Selects .word five 0xAD (.reg .sp) five ∧
    Place.Open16 five (.reg .sp) := ⟨⟨rfl, rfl⟩, ⟨rfl, rfl⟩, ⟨rfl, rfl⟩, trivial⟩

theorem witness_ConditionalMoveResults :
    Cond.nov ≠ .nbio ∧ Selects .word five 0x00 (.mem 0) five ∧ condHolds five.st0 .nov = true ∧
    Place.Open16 five (.mem 0) ∧ condHolds five.st0 .ov = false ∧ Selects .long five 0x01 (.mem 1) five ∧
    Place.Open32 five (.mem 1) := ⟨by decide, ⟨rfl, rfl⟩, rfl, ⟨rfl, rfl⟩, rfl, ⟨rfl, rfl⟩, ⟨rfl, rfl⟩, rfl, rfl⟩

/-- The pushes that are no `loc` encodings also run in the mode where a `loc` field traps. -/
theorem witness_PushResults :
    ¬ (start.st1.page0 = true ∧ start.st1.amode = true) ∧ Place.Open16 start (.mem (start.sp.zeroExtend 32)) ∧
    Place.Open32 { start with sp := 0x7FF } (.mem ((0x7FF : Word).zeroExtend 32)) ∧
    (trapping.st1.page0 = true ∧ trapping.st1.amode = true) ∧ Place.Open16 trapping (.mem (trapping.sp.zeroExtend 32)) ∧
    ends (exec .pushSt1 trapping) (fun t => t.mem.word 0x400 == 0x0B0F && t.sp == 0x401) = true :=
  ⟨by decide, ⟨rfl, rfl⟩, ⟨⟨rfl, rfl⟩, rfl, rfl⟩, ⟨rfl, rfl⟩, ⟨rfl, rfl⟩, by decide⟩

theorem witness_PopResults :
    readData { start with sp := 0x400 - 1 } ((0x400 - 1 : Word).zeroExtend 32) = .ok 0 ∧
    readData32 { start with sp := 0x401 - 2 } ((0x401 - 2 : Word).zeroExtend 32) = .ok 0 := ⟨rfl, rfl⟩

theorem witness_ProgramSpaceMoveResults :
    ((start.xar.get .xar7).extractLsb' 0 22 = (0 : ProgAddr) ∧ Selects .word five 0x01 (.mem 1) five ∧
      readProg five 0 = .ok 5 ∧ Place.Open16 five (.mem 1) ∧ Reads16 five 0x00 5 five ∧
      five.unorderedWrite (five.progWord 0) true = false) ∧
    (if later.repeating then later.rptAddr.getD 0 else 0) = (2 : ProgAddr) ∧ Selects .word later 0x01 (.mem 1) later ∧
    readProg later 2 = .ok 0 ∧ Place.Open16 later (.mem 1) ∧ Reads16 later 0x00 5 later ∧
    later.unorderedWrite (later.progWord 2) true = false :=
  ⟨⟨rfl, ⟨rfl, rfl⟩, rfl, ⟨rfl, rfl⟩, ⟨rfl, rfl⟩, rfl⟩, rfl, ⟨rfl, rfl⟩, rfl, ⟨rfl, rfl⟩, ⟨rfl, rfl⟩, rfl⟩

theorem witness_BranchResults : Cond.eq ≠ .nbio ∧ Cond.unc ≠ .nbio := by decide

theorem witness_CallReturnResults :
    Cond.unc ≠ .nbio ∧ condHolds start.st0 .unc = true ∧ condHolds start.st0 .eq = false ∧
    Place.Open16 start (.mem (start.sp.zeroExtend 32)) ∧ Place.Open16 start (.mem ((start.sp + 1).zeroExtend 32)) ∧
    readData start ((start.sp - 1).zeroExtend 32) = .ok 0 ∧ readData start ((start.sp - 2).zeroExtend 32) = .ok 0 :=
  ⟨by decide, rfl, rfl, ⟨rfl, rfl⟩, ⟨rfl, rfl⟩, rfl, rfl⟩

end Sys2Proof.Tests
end

section
/-! PROOFS. The state: the values of the registers after reset, the flags of a compare, the product shift and the
extension of a 16-bit operand (10_state.md). -/

namespace Sys2Proof.Machine

/-! ## The registers after reset -/

theorem State.powerUp_nil : State.powerUp [] = State.reset := rfl

@[simp] theorem State.powerUp_mem (m : Memory) : (State.powerUp m).mem = m := rfl

@[simp] theorem XarFile.reset_get (n : XReg) : XarFile.reset.get n = 0 := by cases n <;> rfl

@[simp] theorem State.powerUp_xarOf (m : Memory) (n : XReg) : (State.powerUp m).xarOf n = 0 := XarFile.reset_get n

/-- ST0 after reset, every field at the place R29 gives it. -/
theorem St0.reset_toWord : St0.reset.toWord = 0x0000 := by decide

/-- ST1 after reset for each level of the two pins: M0M1MAP and VMAP follow them, INTM and DBGM are set, and every
other bit is clear. -/
theorem St1.reset_toWord_of_pins (m0m1 vmap : Bool) :
    St1.toWord { St1.reset with m0m1map := m0m1, vmap := vmap } =
      0x0003 ||| ((if m0m1 then 1 else 0) <<< 11) ||| ((if vmap then 1 else 0) <<< 3) := by
  cases m0m1 <;> cases vmap <;> decide

theorem State.powerUp_st0Word (m : Memory) : (State.powerUp m).st0Word = 0x0000 := St0.reset_toWord

theorem State.powerUp_st1Word_of_pins (m : Memory) :
    (State.powerUp m).st1Word = 0x0003 ||| ((if Config.m0m1mapPin then 1 else 0) <<< 11) |||
      ((if Config.vmapPin then 1 else 0) <<< 3) :=
  St1.reset_toWord_of_pins Config.m0m1mapPin Config.vmapPin

/-- The value R72 gives, which is the one with both pins high. -/
theorem State.powerUp_st1Word (m : Memory) : (State.powerUp m).st1Word = 0x080B := by
  rw [State.powerUp_st1Word_of_pins]; decide

/-- Settles O8: ST0, ST1, the auxiliary registers and memory by their lemmas; every other register is a field of the
reset state, which no content of memory enters. -/
theorem resetRegisterValues : Obligations.ResetRegisterValues := by
  refine ⟨State.powerUp_nil.symm, fun m => ?_⟩
  exact ⟨State.powerUp_mem m, rfl, rfl, rfl, State.powerUp_xarOf m, rfl, rfl, rfl, rfl, State.powerUp_st0Word m,
    State.powerUp_st1Word m, rfl, rfl, rfl, State.powerUp_st1Word_of_pins m, rfl⟩

/-! ## The flags of a compare -/

section
variable {w : Nat} (f : St0) (a b : BitVec w)

/-- C is clear on a borrow only, that is set where `b ≤ a` unsigned. -/
theorem cmpFlags_c : (cmpFlags f a b).c = decide (b.toNat ≤ a.toNat) := by
  simp [cmpFlags, ← decide_not]

/-- Z compares the numbers, since the signed number determines the bits. -/
theorem cmpFlags_z : (cmpFlags f a b).z = decide (a.toInt = b.toInt) := by
  simp [cmpFlags, BitVec.toInt_inj, beq_eq_decide]

/-- N is the sign of the exact difference, so it is right where `a - b` overflows the width. -/
theorem cmpFlags_n : (cmpFlags f a b).n = decide (a.toInt - b.toInt < 0) := by
  have sign_iff : a.toInt < b.toInt ↔ a.toInt - b.toInt < 0 := by omega
  simp only [cmpFlags, sign_iff]

/-- A compare writes C, Z and N and no other field of ST0. -/
theorem cmpFlags_frame :
    cmpFlags f a b = { f with c := (cmpFlags f a b).c, z := (cmpFlags f a b).z, n := (cmpFlags f a b).n } := rfl

end

/-- Settles O30: the flags are these at every width, 16 and 32 among them. -/
theorem compareFlags : Obligations.CompareFlags :=
  fun _ f a b _ => ⟨cmpFlags_c f a b, cmpFlags_z f a b, cmpFlags_n f a b, cmpFlags_frame f a b⟩

/-! ## The product shift -/

/-- A left shift multiplies the signed number, modulo the width. -/
theorem shiftLeft_eq_ofInt_mul {w : Nat} (x : BitVec w) (k : Nat) :
    x <<< k = BitVec.ofInt w (((2 ^ k : Nat) : Int) * x.toInt) := by
  have twoPow_eq : BitVec.twoPow w k = BitVec.ofNat w (2 ^ k) :=
    BitVec.eq_of_toNat_eq (by rw [BitVec.toNat_twoPow, BitVec.toNat_ofNat])
  rw [BitVec.ofInt_mul, BitVec.ofInt_toInt, BitVec.ofInt_natCast, ← twoPow_eq, BitVec.twoPow_mul_eq_shiftLeft]

/-- A sign-filling right shift divides the signed number, rounding down. -/
theorem sshiftRight_toInt_eq_div {w : Nat} (x : BitVec w) (k : Nat) : (x.sshiftRight k).toInt = x.toInt / 2 ^ k := by
  rw [BitVec.toInt_sshiftRight, Int.shiftRight_eq_div_pow, Int.natCast_pow]; rfl

section
variable (pm : BitVec 3) (amode : Bool) (p : Long)

theorem pshift_pm0 : pshift 0 amode p = p <<< 1 := rfl

theorem pshift_pm1 : pshift 1 amode p = p := rfl

theorem pshift_pm5_amode : pshift 5 true p = p <<< 4 := rfl

/-- The modes from 2 on, but for the one AMODE turns into a left shift, are right shifts. -/
theorem pshift_right (h : 2 ≤ pm.toNat) (h5 : ¬ (pm = 5 ∧ amode = true)) :
    pshift pm amode p = p.sshiftRight (pm.toNat - 1) := by
  have not_pm0 : pm ≠ 0 := by rintro rfl; exact absurd h (by decide)
  have not_pm1 : pm ≠ 1 := by rintro rfl; exact absurd h (by decide)
  rw [pshift, if_neg not_pm0, if_neg not_pm1, if_neg (by simpa using h5)]

end

/-! ## The extension of a 16-bit operand -/

theorem ext16_toInt_of_sxm {f : St0} (h : f.sxm = true) (v : Word) : (ext16 f v).toInt = v.toInt := by
  rw [ext16, if_pos h, BitVec.toInt_signExtend_of_le (by decide)]

theorem ext16_toNat_of_not_sxm {f : St0} (h : f.sxm = false) (v : Word) : (ext16 f v).toNat = v.toNat := by
  rw [ext16, if_neg (by simp [h]), BitVec.toNat_setWidth_of_le (by decide)]

/-- Settles O31: each product shift mode by the shift it selects, each setting of SXM by its extension. -/
theorem productShiftAndExtension : Obligations.ProductShiftAndExtension := by
  refine ⟨fun pm am p => ⟨?pm0, ?pm1, ?pm5, ?right⟩, fun f v => ⟨fun h => ext16_toInt_of_sxm h v,
    fun h => ext16_toNat_of_not_sxm h v⟩⟩
  case pm0 => rintro rfl; rw [pshift_pm0]; exact shiftLeft_eq_ofInt_mul p 1
  case pm1 => rintro rfl; exact pshift_pm1 am p
  case pm5 => rintro rfl rfl; rw [pshift_pm5_amode]; exact shiftLeft_eq_ofInt_mul p 4
  case right =>
    intro h h5
    rw [pshift_right pm am p h h5, sshiftRight_toInt_eq_div]

end Sys2Proof.Machine
end

section
-- One proof at a time: elaborated side by side, the proofs of the joined text need more memory than a check has.
set_option Elab.async false
/-! PROOFS. The decoder and the encoder: an instruction's words decode to it, and what the decoder answers is well
formed (30_encoding.md). -/

namespace Sys2Proof

open Machine (locOperand)

/-! ## Bytes and fields of a word -/

section
variable (h l : BitVec 8)

theorem hi8_append : hi8 (h ++ l) = h := BitVec.extractLsb'_append_eq_left

theorem lo8_append : lo8 (h ++ l) = l := BitVec.extractLsb'_append_eq_right

/-- A field of the high byte. -/
theorem extract_append_high (k m : Nat) : (h ++ l).extractLsb' (8 + k) m = h.extractLsb' k m := by
  rw [BitVec.extractLsb'_append_eq_of_le (by omega), Nat.add_sub_cancel_left]

end

/-- A field of `w` bits has one of `2 ^ w` values. -/
theorem forall_field {w : Nat} {P : BitVec w → Prop} (h : ∀ k : Fin (2 ^ w), P (.ofFin k)) (x : BitVec w) : P x :=
  h x.toFin

@[simp] theorem XReg.ofBits_bits (n : XReg) : XReg.ofBits n.bits = n := by cases n <;> rfl

@[simp] theorem Cond.ofBits_bits (c : Cond) : Cond.ofBits c.bits = c := by cases c <;> rfl

@[simp] theorem AccHalf.ofBit_bit (h : AccHalf) : AccHalf.ofBit h.bit = h := by cases h <;> rfl

/-! ## Decoding by the first word -/

/-- The two illegal words have no row in the table, so a word with a head is none of them. -/
theorem isIllegalWord_of_decodeHead {w : BitVec 16} {h : Head} (hw : decodeHead w = some h) :
    isIllegalWord w = false := by
  rw [isIllegalWord, Bool.or_eq_false_iff, beq_eq_false_iff_ne, beq_eq_false_iff_ne]
  constructor
  · rintro rfl; cases hw
  · rintro rfl; cases hw

theorem decode_one {w : BitVec 16} {i : Instr} (rest : List (BitVec 16)) (hw : decodeHead w = some (.one i)) :
    decode ([w] ++ rest) = .ok (i, rest) := by
  simp [decode, isIllegalWord_of_decodeHead hw, hw]

theorem decode_two {w v : BitVec 16} {k : BitVec 16 → Option Instr} {i : Instr} (rest : List (BitVec 16))
    (hw : decodeHead w = some (.two k)) (hv : k v = some i) : decode ([w, v] ++ rest) = .ok (i, rest) := by
  simp [decode, isIllegalWord_of_decodeHead hw, hw, hv]

/-! ## Second words -/

/-- A second word whose high byte is 0. -/
theorem second00_append {f : Loc → Instr} {k : BitVec 16 → Option Instr} (x : Loc) (h : second00 f = some (.two k)) :
    k (0#8 ++ x) = some (f x) := by
  cases h; simp only [hi8_append, lo8_append]; rfl

/-- A second word with a 4-bit field below a zero nibble. -/
theorem second0F_append {f : BitVec 4 → Loc → Instr} {k : BitVec 16 → Option Instr} (b : BitVec 4) (x : Loc)
    (h : second0F f = some (.two k)) : k (0#4 ++ b ++ x) = some (f b x) := by
  cases h
  refine (if_pos ((extract_append_high (0#4 ++ b) x 4 4).trans BitVec.extractLsb'_append_eq_left)).trans ?_
  exact congrArg₂ (some <| f · ·) ((extract_append_high (0#4 ++ b) x 0 4).trans BitVec.extractLsb'_append_eq_right)
    (lo8_append (0#4 ++ b) x)

/-- A second word with a 3-bit field below five zero bits. -/
theorem second07_append {f : BitVec 3 → Loc → Instr} (b : BitVec 3) (x : Loc) :
    (if (0#5 ++ b ++ x).extractLsb' 11 5 = 0#5 then some (f ((0#5 ++ b ++ x).extractLsb' 8 3) (lo8 (0#5 ++ b ++ x)))
      else none) = some (f b x) := by
  refine (if_pos ((extract_append_high (0#5 ++ b) x 3 5).trans BitVec.extractLsb'_append_eq_left)).trans ?_
  exact congrArg₂ (some <| f · ·) ((extract_append_high (0#5 ++ b) x 0 3).trans BitVec.extractLsb'_append_eq_right)
    (lo8_append (0#5 ++ b) x)

/-- The second words of the `*XAR7` and `*XAR7++` forms. -/
theorem secondXar7_append {f g : Loc → Instr} {k : BitVec 16 → Option Instr} (x : Loc)
    (h : secondXar7 f g = some (.two k)) : k (0xC7#8 ++ x) = some (f x) ∧ k (0x87#8 ++ x) = some (g x) := by
  cases h; simp only [hi8_append, lo8_append]; exact ⟨rfl, rfl⟩

/-- An instruction is what its own words decode to. -/
def Instr.RoundTrips (i : Instr) : Prop := ∀ rest, decode (encode i ++ rest) = .ok (i, rest)

theorem roundTrips_of_long {i : Instr} {loc : Loc} (h : locOperand i = some (.long, loc)) : i.RoundTrips := by
  intro rest
  cases i <;> cases h
  case addclAcc | addulAcc => exact decode_two rest rfl (by rw [lo8_append])
  case addlAcc | sublAcc | cmplAcc =>
    exact decode_one rest (by unfold decodeHead; rw [hi8_append, lo8_append]; rfl)
  case dmacXar7 | imaclXar7 | qmaclXar7 => exact decode_two rest rfl (secondXar7_append loc rfl).1
  case dmacXar7Inc | imaclXar7Inc | qmaclXar7Inc => exact decode_two rest rfl (secondXar7_append loc rfl).2
  case movlLoc32AccCond cond =>
    refine decode_two rest rfl ((second0F_append cond.bits loc (f := fun b => .movlLoc32AccCond (Cond.ofBits b)) rfl).trans ?_)
    rw [Cond.ofBits_bits]
  case addlLoc32Acc | addulP | subblAcc | sublLoc32Acc | subrlLoc32Acc | subulAcc | subulP | maxlAcc | minlAcc | subcul
      | impyl | impyal | impysl | impyxul | qmpyal | qmpysl => exact decode_two rest rfl (second00_append loc rfl)
  all_goals rfl

section
variable (x : BitVec 8)

/-! The first words whose high byte holds a field: its value decides the branch, so each value is looked at. -/

theorem decodeHead_tbitImm (b : BitVec 4) : decodeHead (4#4 ++ b ++ x) = some (.one (.tbitImm b x)) := by
  unfold decodeHead
  rw [hi8_append, lo8_append, extract_append_high _ _ 4 4, extract_append_high _ _ 0 4]
  induction b using forall_field with | _ k => fin_cases k <;> rfl

theorem decodeHead_sb (c : Cond) : decodeHead (6#4 ++ c.bits ++ x) = some (.one (.sb c x)) := by
  unfold decodeHead
  rw [hi8_append, lo8_append, extract_append_high _ _ 4 4, extract_append_high _ _ 3 5, extract_append_high _ _ 0 4]
  cases c <;> rfl

theorem decodeHead_movArx (n : XReg) (hn : n.num < 6) : decodeHead (11#5 ++ n.bits ++ x) = some (.one (.movArx n x)) := by
  unfold decodeHead
  rw [hi8_append, lo8_append, extract_append_high _ _ 4 4, extract_append_high _ _ 3 5, extract_append_high _ _ 0 3]
  cases n
  case xar6 | xar7 => exact absurd hn (by decide)
  all_goals rfl

theorem decodeHead_movbAr (n : XReg) : decodeHead (26#5 ++ n.bits ++ x) = some (.one (.movbAr n x)) := by
  unfold decodeHead
  rw [hi8_append, lo8_append, extract_append_high _ _ 4 4, extract_append_high _ _ 3 5, extract_append_high _ _ 0 3]
  cases n <;> rfl

end

theorem roundTrips_of_word {i : Instr} {loc : Loc} (hi : i.wellFormed = true) (h : locOperand i = some (.word, loc)) :
    i.RoundTrips := by
  intro rest
  cases i <;> cases h
  case movOvcLoc16 | movuOvcLoc16 | addAccLoc16ShlT | subAccLoc16ShlT | tbitT | sqra | sqrs | movAccLoc16ShlT =>
    exact decode_two rest rfl (second00_append loc rfl)
  case macXar7 => exact decode_two rest rfl (secondXar7_append loc rfl).1
  case macXar7Inc => exact decode_two rest rfl (secondXar7_append loc rfl).2
  case addAccLoc16Shl b | subAccLoc16Shl b | movAccLoc16Shl b | tclr b | tset b =>
    exact decode_two rest rfl (second0F_append b loc rfl)
  case addAccLoc16 | addAccLoc16Shl16 | addcuAcc | adduAcc | subAccLoc16 | subAccLoc16Shl16 | sbbuAcc | subuAcc | subcu
      | incLoc16 | decLoc16 | movad | mpyPT | mpyAccT | mpyaPT | mpysPT | movAccLoc16 | movAccLoc16Shl16
      | movLoc16AccShl1 | movhLoc16AccShl1 | movLoc16P | movhLoc16P | movIerLoc16 | pread | pwrite | rptLoc16 =>
    exact decode_one rest (by unfold decodeHead; rw [hi8_append, lo8_append]; rfl)
  case addLoc16Imm | cmpLoc16Imm | mpyPImm | mpyAccImm | mpyaPImm | macPma | xmac | xmacd | loopnz | loopz =>
    exact decode_two rest (by unfold decodeHead; rw [hi8_append, lo8_append]; rfl) rfl
  case mova | movs | movp | movLoc16Ier =>
    refine decode_one rest ?_
    unfold decodeHead
    rw [hi8_append, lo8_append]
    exact if_neg (bne_iff_ne.1 hi)
  case maxAx ax | minAx ax => cases ax <;> exact decode_two rest rfl (second00_append loc rfl)
  case addAxLoc16 ax | addLoc16Ax ax | subAxLoc16 ax | subLoc16Ax ax | subrLoc16Ax ax | cmpAxLoc16 ax =>
    refine decode_one rest ?_
    unfold decodeHead
    rw [hi8_append, lo8_append]
    cases ax <;> rfl
  case tbitImm b => exact decode_one rest (decodeHead_tbitImm loc b)
  case movArx n => exact decode_one rest (decodeHead_movArx loc n (of_decide_eq_true hi))
  case movLoc16AccShl b => exact decode_two rest rfl (second07_append (f := .movLoc16AccShl) b loc)
  case movhLoc16AccShl b => exact decode_two rest rfl (second07_append (f := .movhLoc16AccShl) b loc)
  case movLoc16AxCond ax c =>
    have second : ∀ k, second0F (fun b => .movLoc16AxCond ax (Cond.ofBits b)) = some (.two k) →
        k (0#4 ++ c.bits ++ loc) = some (.movLoc16AxCond ax c loc) := fun k hk => by
      rw [second0F_append c.bits loc hk, Cond.ofBits_bits]
    cases ax <;> exact decode_two rest rfl (second _ rfl)
  case movbLoc16Cond c k =>
    have second : some (Instr.movbLoc16Cond c (hi8 (k ++ loc)) (lo8 (k ++ loc))) = some (.movbLoc16Cond c k loc) := by
      rw [hi8_append, lo8_append]
    cases c <;> exact decode_two rest rfl second
  all_goals rfl

/-- The one field that fills the low byte of a first word from bit 5 down. -/
theorem decodeHead_lcr (a : BitVec 6) : decodeHead (0x1D9#10 ++ a) = some (.two fun v => some (.lcr (a ++ v))) := by
  have page : hi8 (0x1D9#10 ++ a) = 0x76#8 := by induction a using forall_field with | _ k => fin_cases k <;> rfl
  unfold decodeHead
  rw [page]
  induction a using forall_field with | _ k => fin_cases k <;> rfl

theorem decodeHead_pageFF {w : BitVec 16} (h : hi8 w = 0xFF#8) : decodeHead w = decodePageFF w := by
  unfold decodeHead; rw [h]; rfl

theorem decodeHead_page56 {w : BitVec 16} (h : hi8 w = 0x56#8) : decodeHead w = decodePage56 w := by
  unfold decodeHead; rw [h]; rfl

theorem roundTrips_of_no_loc {i : Instr} (h : locOperand i = none) : i.RoundTrips := by
  intro rest
  cases i <;> cases h
  case setcMode | clrcMode | addbAcc | subbAcc | sbfEq | sbfNeq | sbfTc | sbfNtc | rptImm =>
    exact decode_one rest (by unfold decodeHead; rw [hi8_append, lo8_append]; rfl)
  case addbAx ax _ | cmpbAx ax _ =>
    refine decode_one rest ?_
    unfold decodeHead
    rw [hi8_append, lo8_append]
    cases ax <;> rfl
  case movbAr n x => exact decode_one rest (decodeHead_movbAr x n)
  case sb c x => exact decode_one rest (decodeHead_sb x c)
  case lcr c =>
    exact decode_two rest (decodeHead_lcr _) (congrArg (some <| Instr.lcr ·) (BitVec.extractLsb'_append_extractLsb' (w := 6)))
  case addAccImmShl sh _ | subAccImmShl sh _ | movAccImmShl sh _ =>
    refine decode_two rest (k := fun c => some _) ?_ rfl
    induction sh using forall_field with | _ k => fin_cases k <;> exact decodeHead_pageFF rfl
  case spm sh | lslAccImm sh | sfrAccImm sh =>
    refine decode_one rest ?_
    induction sh using forall_field with | _ k => fin_cases k <;> exact decodeHead_pageFF rfl
  case lsl64Imm sh | lsr64Imm sh | asr64Imm sh =>
    refine decode_one rest ?_
    induction sh using forall_field with | _ k => fin_cases k <;> exact decodeHead_page56 rfl
  case intr sh | trap sh =>
    induction sh using forall_field with | _ k => fin_cases k <;> rfl
  case lslAxImm ax sh | lsrAxImm ax sh | asrAxImm ax sh =>
    refine decode_one rest ?_
    induction sh using forall_field with | _ k => cases ax <;> fin_cases k <;> exact decodeHead_pageFF rfl
  case negAx ax | lslAxT ax | lsrAxT ax | asrAxT ax => cases ax <;> rfl
  case b c _ | bf c _ | xb c _ | xcall c _ | xretc c => cases c <;> rfl
  case normXarInc n | normXarDec n | banz n _ => cases n <;> rfl
  case barEq n m _ | barNeq n m _ => cases n <;> cases m <;> rfl
  all_goals rfl

/-- Settles O1: by the `loc` field the instruction decodes, 16 bits, 32 bits or none. -/
theorem decodeOfEncode : Obligations.DecodeOfEncode := by
  intro i rest hi
  rcases h : locOperand i with _ | ⟨w, loc⟩
  · exact roundTrips_of_no_loc h rest
  · cases w with
    | word => exact roundTrips_of_word hi h rest
    | long => exact roundTrips_of_long h rest

/-! ## What the decoder answers -/

/-- A well-formed instruction of `n` words. -/
def Instr.IsProper (n : Nat) (i : Instr) : Prop := i.wellFormed = true ∧ i.words = n

/-- What a first word says, if anything, is well formed and has the length it says. -/
def Fits : Option Head → Prop
  | none => True
  | some (.one i) => i.IsProper 1
  | some (.two k) => ∀ v i, k v = some i → i.IsProper 2

theorem fits_none : Fits none := trivial

theorem fits_one {i : Instr} (h : i.IsProper 1) : Fits (some (.one i)) := h

theorem fits_two {k : BitVec 16 → Instr} (h : ∀ v, (k v).IsProper 2) : Fits (some (.two fun v => some (k v))) := by
  rintro v i ⟨⟩; exact h v

theorem fits_guarded {c : BitVec 16 → Prop} [DecidablePred c] {k : BitVec 16 → Instr} (h : ∀ v, (k v).IsProper 2) :
    Fits (some (.two fun v => if c v then some (k v) else none)) := by
  intro v i hi
  obtain ⟨-, rfl⟩ : c v ∧ k v = i := by simpa using hi
  exact h v

theorem fits_second00 {k : Loc → Instr} (h : ∀ x, (k x).IsProper 2) : Fits (second00 k) :=
  fits_guarded fun v => h (lo8 v)

theorem fits_second0F {k : BitVec 4 → Loc → Instr} (h : ∀ b x, (k b x).IsProper 2) : Fits (second0F k) :=
  fits_guarded fun v => h (v.extractLsb' 8 4) (lo8 v)

theorem fits_secondXar7 {k kInc : Loc → Instr} (h : ∀ x, (k x).IsProper 2) (hInc : ∀ x, (kInc x).IsProper 2) :
    Fits (secondXar7 k kInc) := by
  intro v i hi
  by_cases hv : hi8 v = 0xC7#8
  · cases (if_pos hv).symm.trans hi; exact h _
  · obtain ⟨-, rfl⟩ : _ ∧ kInc (lo8 v) = i := by simpa using (if_neg hv).symm.trans hi
    exact hInc _

theorem fits_ite {c : Prop} [Decidable c] {a b : Option Head} (ha : c → Fits a) (hb : ¬ c → Fits b) :
    Fits (if c then a else b) := by
  by_cases h : c
  · rw [if_pos h]; exact ha h
  · rw [if_neg h]; exact hb h

/-! Every row of a page, by the form of its branch. -/

theorem decodePage00_fits (w : BitVec 16) : Fits (decodePage00 w) := by
  unfold decodePage00
  split
  all_goals repeat' refine fits_ite (fun _ => ?_) fun _ => ?_
  all_goals first | exact fits_one ⟨rfl, rfl⟩ | exact fits_two fun _ => ⟨rfl, rfl⟩ | exact fits_none

theorem decodePage56_fits (w : BitVec 16) : Fits (decodePage56 w) := by
  unfold decodePage56
  split
  all_goals repeat' refine fits_ite (fun _ => ?_) fun _ => ?_
  all_goals first
    | exact fits_one ⟨rfl, rfl⟩
    | exact fits_second00 fun _ => ⟨rfl, rfl⟩
    | exact fits_second0F fun _ _ => ⟨rfl, rfl⟩
    | exact fits_secondXar7 (fun _ => ⟨rfl, rfl⟩) fun _ => ⟨rfl, rfl⟩
    | exact fits_two fun _ => ⟨rfl, rfl⟩
    | exact fits_guarded fun _ => ⟨rfl, rfl⟩
    | exact fits_none

theorem decodePage76_fits (w : BitVec 16) : Fits (decodePage76 w) := by
  unfold decodePage76
  split
  all_goals repeat' refine fits_ite (fun _ => ?_) fun _ => ?_
  all_goals first | exact fits_one ⟨rfl, rfl⟩ | exact fits_two fun _ => ⟨rfl, rfl⟩ | exact fits_none

theorem decodePage8F_fits (w : BitVec 16) : Fits (decodePage8F w) :=
  fits_ite (fun _ => fits_two fun _ => ⟨rfl, rfl⟩) fun _ =>
    fits_ite (fun _ => fits_two fun _ => ⟨rfl, rfl⟩) fun _ => fits_none

theorem decodePageFF_fits (w : BitVec 16) : Fits (decodePageFF w) := by
  unfold decodePageFF
  split
  all_goals repeat' refine fits_ite (fun _ => ?_) fun _ => ?_
  all_goals first | exact fits_one ⟨rfl, rfl⟩ | exact fits_two fun _ => ⟨rfl, rfl⟩ | exact fits_none

/-- The rows outside the pages, and the pages: the rows of MOVA, MOVS, MOVP, MOV loc16,IER and MOV ARx leave the words
of another instruction to it. -/
theorem decodeHead_fits (w : BitVec 16) : Fits (decodeHead w) := by
  have page00 := decodePage00_fits w
  have page56 := decodePage56_fits w
  have page76 := decodePage76_fits w
  have page8F := decodePage8F_fits w
  have pageFF := decodePageFF_fits w
  unfold decodeHead
  split
  all_goals repeat' refine fits_ite (fun own => ?_) fun own => ?_
  all_goals first
    | exact fits_one ⟨rfl, rfl⟩
    | exact fits_two fun _ => ⟨rfl, rfl⟩
    | exact fits_none
    | assumption
    | exact fits_one ⟨bne_iff_ne.2 own, rfl⟩
    | exact fits_one ⟨decide_eq_true own.2, rfl⟩

/-- Settles O2: by the first word, which fits. -/
theorem decodedIsWellFormed : Obligations.DecodedIsWellFormed := by
  intro ws i rest h
  cases ws with
  | nil => cases h
  | cons w ws =>
    have fits := decodeHead_fits w
    unfold decode at h
    simp only at h
    split at h
    · cases h
    · cases hw : decodeHead w with
      | none => rw [hw] at h; cases h
      | some d =>
        rw [hw] at fits h
        cases d with
        | one j =>
          cases h
          exact ⟨fits.1, .inl fits.2, [w], rfl, fits.2.symm⟩
        | two k =>
          cases ws with
          | nil => cases h
          | cons v ws =>
            cases hv : k v with
            | none => simp [hv] at h
            | some j =>
              simp only [hv] at h
              cases h
              obtain ⟨hwf, hlen⟩ := fits v _ hv
              exact ⟨hwf, .inr hlen, [w, v], rfl, hlen.symm⟩

/-- Settles O3: the words are concrete, and the decoder runs on them. -/
theorem decodeOfRuleWords : Obligations.DecodeOfRuleWords :=
  ⟨rfl, rfl, rfl, rfl, rfl, rfl, rfl, rfl, rfl, rfl, rfl, rfl, rfl, rfl, rfl⟩

end Sys2Proof
end

section
-- One proof at a time: elaborated side by side, the proofs of the joined text need more memory than a check has.
set_option Elab.async false
/-! PROOFS. What an instruction may change: the relation between the states before and after it, said once for the
shapes the meanings share, and from it for every instruction but those that write system registers. -/

namespace Sys2Proof

/-! ## The writers of ST0, and the system instructions -/


/-- The conditions that test V, and clear it (R33, R150). -/
def Cond.testsV : Cond → Bool
  | .nov | .ov => true
  | _ => false

/-- The instructions that may clear V (R33). -/
def Instr.clearsV : Instr → Bool
  | .satAcc | .sat64AccP | .popSt0 | .iret => true
  | .b c _ | .bf c _ | .sb c _ | .xb c _ | .xcall c _ | .xretc c => c.testsV
  | .movLoc16AxCond _ c _ | .movbLoc16Cond c _ _ | .movlLoc32AccCond c _ => c.testsV
  | _ => false

/-- The instructions of Table 2-9 and the loads of ST0 (R37). -/
def Instr.writesTc : Instr → Bool
  | .popSt0 | .iret | .abstcAcc | .csb | .setcMode _ | .clrcMode _ | .cmpr0 | .cmpr1 | .cmpr2 | .cmpr3
  | .normXarInc _ | .normXarDec _ | .normInd | .normIndInc | .normIndDec | .normInd0Inc | .normInd0Dec
  | .tbitImm _ _ | .tclr _ _ | .tset _ _ | .tbitT _ => true
  | _ => false

/-- SETC, CLRC and the loads of ST0 (R38, R39). -/
def Instr.writesModes : Instr → Bool
  | .popSt0 | .iret | .setcMode _ | .clrcMode _ => true
  | _ => false

/-- SPM and the loads of ST0 (R32). -/
def Instr.writesPm : Instr → Bool
  | .popSt0 | .iret | .spm _ => true
  | _ => false

/-- The instructions that write ST1 by name or load it, an interrupt register, RPC, a field of a repeat or the
acknowledge events, and those that take or leave a service routine. -/
def Instr.isSystem : Instr → Bool
  | .setcMode _ | .clrcMode _ | .setcXf | .clrcXf | .setcObjmode | .clrcObjmode | .setcAmode | .clrcAmode | .eallow
  | .edis | .asp | .nasp | .movIerLoc16 _ | .orIer _ | .andIer _ | .orIfr _ | .andIfr _ | .popDbgier | .popSt1
  | .lcr _ | .lretr | .rptImm _ | .rptLoc16 _ | .loopnz _ _ | .loopz _ _ | .idle | .intr _ | .intrNmi | .trap _
  | .iret | .aborti | .iack _ => true
  | _ => false

end Sys2Proof

namespace Sys2Proof.Machine

/-! ## What the ALU procedures keep of ST0 -/

/-- V is not cleared, and TC, OVM, SXM and PM stay (R32, R33, R37 to R39). -/
structure St0Keeps (f g : St0) : Prop where
  v : f.v = true → g.v = true
  tc : g.tc = f.tc
  ovm : g.ovm = f.ovm
  sxm : g.sxm = f.sxm
  pm : g.pm = f.pm

theorem St0Keeps.refl (f : St0) : St0Keeps f f := ⟨id, rfl, rfl, rfl, rfl⟩

section
variable {w : Nat} (f : St0)

theorem latchV_of_v {f : St0} (o : Overflow) (h : f.v = true) : latchV f o = true := by simp [latchV, h]

theorem setNZ_keeps (r : BitVec w) : St0Keeps f (setNZ f r) := ⟨id, rfl, rfl, rfl, rfl⟩

theorem addAcc_keeps (a b : Long) (c : Bool) : St0Keeps f (addAcc f a b c).2 :=
  ⟨latchV_of_v _, rfl, rfl, rfl, rfl⟩

theorem subAcc_keeps (a b : Long) (c : Bool) : St0Keeps f (subAcc f a b c).2 :=
  ⟨latchV_of_v _, rfl, rfl, rfl, rfl⟩

theorem keepCarrySet_keeps {r : Long × St0} (h : St0Keeps f r.2) : St0Keeps f (keepCarrySet f r).2 :=
  let ⟨v, tc, ovm, sxm, pm⟩ := h
  ⟨v, tc, ovm, sxm, pm⟩

theorem keepCarryClear_keeps {r : Long × St0} (h : St0Keeps f r.2) : St0Keeps f (keepCarryClear f r).2 :=
  let ⟨v, tc, ovm, sxm, pm⟩ := h
  ⟨v, tc, ovm, sxm, pm⟩

theorem addU32_keeps (a b : Long) : St0Keeps f (addU32 f a b).2 := ⟨latchV_of_v _, rfl, rfl, rfl, rfl⟩

theorem subU32_keeps (a b : Long) : St0Keeps f (subU32 f a b).2 := ⟨latchV_of_v _, rfl, rfl, rfl, rfl⟩

theorem add16_keeps (a b : Word) : St0Keeps f (add16 f a b).2 := ⟨latchV_of_v _, rfl, rfl, rfl, rfl⟩

theorem sub16_keeps (a b : Word) : St0Keeps f (sub16 f a b).2 := ⟨latchV_of_v _, rfl, rfl, rfl, rfl⟩

/-- With the parameter of C4 at its default the memory forms are the others (R31, R270). -/
theorem add16Mem_eq (a b : Word) : add16Mem f a b = add16 f a b := rfl

theorem sub16Mem_eq (a b : Word) : sub16Mem f a b = sub16 f a b := rfl

theorem cmpFlags_keeps (a b : BitVec w) : St0Keeps f (cmpFlags f a b) := ⟨id, rfl, rfl, rfl, rfl⟩

theorem maxOp_keeps (a b : BitVec w) : St0Keeps f (maxOp f a b).2 :=
  ⟨fun h => by simp [maxOp, maxV, Config.minmaxVSense, h], rfl, rfl, rfl, rfl⟩

theorem minOp_keeps (a b : BitVec w) : St0Keeps f (minOp f a b).2 :=
  ⟨fun h => by simp [minOp, minV, Config.minmaxVSense, h], rfl, rfl, rfl, rfl⟩

theorem lsl_keeps (x : BitVec w) (k : Nat) : St0Keeps f (lsl f x k).2 := ⟨id, rfl, rfl, rfl, rfl⟩

theorem lsr_keeps (x : BitVec w) (k : Nat) : St0Keeps f (lsr f x k).2 := ⟨id, rfl, rfl, rfl, rfl⟩

theorem asr_keeps (x : BitVec w) (k : Nat) : St0Keeps f (asr f x k).2 := ⟨id, rfl, rfl, rfl, rfl⟩

theorem sfr_keeps (x : Long) (k : Nat) : St0Keeps f (sfr f x k).2 := by
  unfold sfr
  split
  · exact asr_keeps f x k
  · exact lsr_keeps f x k

theorem rol_keeps (x : Long) : St0Keeps f (rol f x).2 := ⟨id, rfl, rfl, rfl, rfl⟩

theorem ror_keeps (x : Long) : St0Keeps f (ror f x).2 := ⟨id, rfl, rfl, rfl, rfl⟩

theorem negSat_keeps (x : BitVec w) : St0Keeps f (negSat f x).2 := by
  unfold negSat
  split
  · exact ⟨fun _ => rfl, rfl, rfl, rfl, rfl⟩
  · exact .refl f

theorem negOp_keeps (x : BitVec w) : St0Keeps f (negOp f x).2 :=
  let ⟨v, tc, ovm, sxm, pm⟩ := negSat_keeps f x
  ⟨v, tc, ovm, sxm, pm⟩

theorem absOp_keeps (x : Long) : St0Keeps f (absOp f x).2 := by
  unfold absOp
  split
  · exact let ⟨v, tc, ovm, sxm, pm⟩ := negSat_keeps f x; ⟨v, tc, ovm, sxm, pm⟩
  · exact ⟨id, rfl, rfl, rfl, rfl⟩

theorem neg16_keeps (x : Word) : St0Keeps f (neg16 f x).2 := ⟨fun h => by simp [neg16, setNZ, h], rfl, rfl, rfl, rfl⟩

theorem subcuOp_keeps (a : Long) (v : Word) : St0Keeps f (subcuOp f a v).2 := ⟨id, rfl, rfl, rfl, rfl⟩

theorem subculOp_keeps (a p v : Long) : St0Keeps f (subculOp f a p v).2.2 := ⟨id, rfl, rfl, rfl, rfl⟩

end

/-! ## What an instruction may do to ST0 -/

/-- What the instruction `i` may do to ST0. -/
structure St0Effect (i : Instr) (f g : St0) : Prop where
  v : i.clearsV = false → f.v = true → g.v = true
  tc : i.writesTc = false → g.tc = f.tc
  modes : i.writesModes = false → g.ovm = f.ovm ∧ g.sxm = f.sxm
  pm : i.writesPm = false → g.pm = f.pm

theorem St0Keeps.effect {i : Instr} {f g : St0} (h : St0Keeps f g) : St0Effect i f g :=
  ⟨fun _ => h.v, fun _ => h.tc, fun _ => ⟨h.ovm, h.sxm⟩, fun _ => h.pm⟩

theorem St0Effect.refl (i : Instr) (f : St0) : St0Effect i f f := (St0Keeps.refl f).effect

theorem St0Effect.trans {i : Instr} {f g k : St0} (h : St0Effect i f g) (h' : St0Effect i g k) : St0Effect i f k where
  v hi hf := h'.v hi (h.v hi hf)
  tc hi := (h'.tc hi).trans (h.tc hi)
  modes hi := ⟨(h'.modes hi).1.trans (h.modes hi).1, (h'.modes hi).2.trans (h.modes hi).2⟩
  pm hi := (h'.pm hi).trans (h.pm hi)

/-- A condition clears V at most where it tests V. -/
theorem condFlags_effect {i : Instr} {c : Cond} (f : St0) (hi : c.testsV = true → i.clearsV = true) :
    St0Effect i f (condFlags f c) := by
  cases c
  case nov | ov =>
    exact ⟨fun keeps => Bool.noConfusion (keeps.symm.trans (hi rfl)), fun _ => rfl, fun _ => ⟨rfl, rfl⟩, fun _ => rfl⟩
  all_goals exact .refl i f

/-! ## Relations every ordinary instruction keeps -/

/-- Besides the general registers, SP, ARP, the pc and what `i` may do to ST0, nothing has changed. -/
def Regs (i : Instr) (s t : State) : Prop :=
  t = { s with acc := t.acc, p := t.p, xt := t.xt, xar := t.xar, sp := t.sp, pc := t.pc, st0 := t.st0,
               st1 := { s.st1 with arp := t.st1.arp } } ∧ St0Effect i s.st0 t.st0

/-- A relation between the state before and the state after, kept by everything an ordinary instruction does: changes
of the general registers, stores, the temporary program address of a repeat, and the illegal-instruction trap. -/
structure Frame (i : Instr) (R : State → State → Prop) : Prop where
  trans {s t u : State} : R s t → R t u → R s u
  regs {s t : State} : Regs i s t → R s t
  write {s t : State} {a : DataAddr} {v : Word} : writeData s a v = .ok t → R s t
  writeProg {s t : State} {a : ProgAddr} {v : Word} : writeProg s a v = .ok t → R s t
  step (s : State) (a k : ProgAddr) : R s (s.stepOperand a k)
  trap {s t : State} : illegalTrap s = .ok t → R s t

/-- When an instruction with a `loc` field completes: it traps, or its body answers. -/
theorem withLoc_next_iff {w : Width} {loc : Loc} {s t : State} {body : Res State} :
    withLoc w loc s body = .next t ↔
      (locTraps w loc s = true ∧ illegalTrap s = .ok t) ∨ (locTraps w loc s = false ∧ body = .ok t) := by
  cases h : locTraps w loc s with
  | true => simp [withLoc_trap h, Res.toOutcome_next]
  | false => simp [withLoc_run h, Res.toOutcome_next]

/-- ST0 written, everything else as before. -/
theorem regs_st0 {i : Instr} {s : State} {f : St0} (h : St0Effect i s.st0 f) : Regs i s { s with st0 := f } := ⟨rfl, h⟩

/-- A pop leaves SP moved and nothing else. -/
theorem regs_pop16 {i : Instr} {s t : State} {v : Word} (h : pop16 s = .ok (v, t)) : Regs i s t := by
  obtain ⟨rfl, -⟩ := (pop16_ok_iff ..).1 h; exact ⟨rfl, .refl ..⟩

theorem regs_pop32 {i : Instr} {s t : State} {v : Long} (h : pop32 s = .ok (v, t)) : Regs i s t := by
  obtain ⟨rfl, -⟩ := (pop32_ok_iff ..).1 h; exact ⟨rfl, .refl ..⟩

theorem regs_resolve {i : Instr} {w : Width} {loc : Loc} {s t : State} {pl : Place}
    (h : resolve w loc s = .ok (pl, t)) : Regs i s t := by
  rw [resolve_frame h]; exact ⟨rfl, .refl ..⟩

theorem regs_writeReg16 {i : Instr} (s : State) (r : LocReg) (v : Word) : Regs i s (writeReg16 s r v) := by
  cases r <;> exact ⟨rfl, .refl ..⟩

theorem regs_writeReg32 {i : Instr} (s : State) (r : LocReg) (v : Long) : Regs i s (writeReg32 s r v) := by
  cases r <;> exact ⟨rfl, .refl ..⟩

namespace Frame

variable {i : Instr} {R : State → State → Prop} (F : Frame i R) {s t : State} {len : ProgAddr} {loc : Loc}
include F

theorem advance (s : State) (len : ProgAddr) : R s (s.advance len) := F.regs ⟨rfl, .refl ..⟩

/-- After a step of the frame, the pc moved on. -/
theorem advanced (h : R s t) (len : ProgAddr) : R s (t.advance len) := F.trans h (F.advance t len)

theorem resolved {w : Width} {pl : Place} (h : resolve w loc s = .ok (pl, t)) : R s t := F.regs (regs_resolve h)

theorem write32 {a : DataAddr} {v : Long} (h : writeData32 s a v = .ok t) : R s t := by
  obtain ⟨u, h1, h2⟩ := (writeData32_ok_iff ..).1 h
  exact F.trans (F.write h1) (F.write h2)

theorem place16 {pl : Place} {v : Word} (h : writePlace16 s pl v = .ok t) : R s t := by
  cases pl with
  | mem a => exact F.write h
  | reg r => cases h; exact F.regs (regs_writeReg16 s r v)

theorem place32 {pl : Place} {v : Long} (h : writePlace32 s pl v = .ok t) : R s t := by
  cases pl with
  | mem a => exact F.write32 h
  | reg r => cases h; exact F.regs (regs_writeReg32 s r v)

theorem pushed16 {v : Word} (h : push16 s v = .ok t) : R s t := by
  unfold push16 at h
  simp only [Res.bind_eq_ok, Res.pure_eq, Except.ok.injEq] at h
  obtain ⟨u, h1, rfl⟩ := h
  exact F.trans (F.write h1) (F.regs ⟨rfl, .refl ..⟩)

theorem pushed32 {v : Long} (h : push32 s v = .ok t) : R s t := by
  obtain ⟨u, h1, rfl⟩ := (push32_ok_iff ..).1 h
  exact F.trans (F.write32 h1) (F.regs ⟨rfl, .refl ..⟩)

/-! ### The shapes of the meanings -/

theorem register {u : State} (h : Machine.register len u = .next t) (hu : Regs i s u) : R s t := by
  cases h; exact F.advanced (F.regs hu) len

theorem next {u : State} (h : (.next u : Host.Outcome State Fault Refusal) = .next t) (hu : Regs i s u) : R s t := by
  cases h; exact F.regs hu

theorem withLoc {w : Width} {body : Res State} (h : Machine.withLoc w loc s body = .next t)
    (hb : body = .ok t → R s t) : R s t := by
  rcases withLoc_next_iff.1 h with ⟨-, h⟩ | ⟨-, h⟩
  · exact F.trap h
  · exact hb h

theorem reading16 {f : Word → State → State} (h : Machine.reading16 len loc s f = .next t)
    (hf : ∀ v u, Regs i u (f v u)) : R s t := by
  refine F.withLoc h fun hb => ?_
  simp only [Res.bind_eq_ok, Res.pure_eq, Except.ok.injEq] at hb
  obtain ⟨⟨v, u⟩, hr, rfl⟩ := hb
  obtain ⟨pl, hr, -⟩ := readLoc16_cases hr
  exact F.advanced (F.trans (F.resolved hr) (F.regs (hf v u))) len

theorem reading32 {f : Long → State → State} (h : Machine.reading32 len loc s f = .next t)
    (hf : ∀ v u, Regs i u (f v u)) : R s t := by
  refine F.withLoc h fun hb => ?_
  simp only [Res.bind_eq_ok, Res.pure_eq, Except.ok.injEq] at hb
  obtain ⟨⟨v, u⟩, hr, rfl⟩ := hb
  obtain ⟨pl, hr, -⟩ := readLoc32_cases hr
  exact F.advanced (F.trans (F.resolved hr) (F.regs (hf v u))) len

theorem storing16 {v : Word} (h : Machine.storing16 len loc s v = .next t) : R s t := by
  refine F.withLoc h fun hb => ?_
  simp only [writeLoc16, Res.bind_eq_ok, Res.pure_eq, Except.ok.injEq] at hb
  obtain ⟨u, ⟨⟨pl, s1⟩, hr, hw⟩, rfl⟩ := hb
  exact F.advanced (F.trans (F.resolved hr) (F.place16 hw)) len

theorem updating16 {f : Word → Word × St0} (h : Machine.updating16 len loc s f = .next t)
    (hf : ∀ v, St0Effect i s.st0 (f v).2) : R s t := by
  refine F.withLoc h fun hb => ?_
  simp only [updateLoc16, Res.bind_eq_ok, Res.pure_eq, Except.ok.injEq] at hb
  obtain ⟨u, ⟨⟨pl, s1⟩, hr, v, -, hw⟩, rfl⟩ := hb
  have st0_eq : s1.st0 = s.st0 := by rw [resolve_frame hr]
  exact F.advanced (F.trans (F.trans (F.resolved hr) (F.regs (regs_st0 (st0_eq ▸ hf v)))) (F.place16 hw)) len

theorem updating32 {f : Long → Long × St0} (h : Machine.updating32 len loc s f = .next t)
    (hf : ∀ v, St0Effect i s.st0 (f v).2) : R s t := by
  refine F.withLoc h fun hb => ?_
  simp only [updateLoc32, Res.bind_eq_ok, Res.pure_eq, Except.ok.injEq] at hb
  obtain ⟨u, ⟨⟨pl, s1⟩, hr, v, -, hw⟩, rfl⟩ := hb
  have st0_eq : s1.st0 = s.st0 := by rw [resolve_frame hr]
  exact F.advanced (F.trans (F.trans (F.resolved hr) (F.regs (regs_st0 (st0_eq ▸ hf v)))) (F.place32 hw)) len

theorem pushing16 {v : Word} (h : Machine.pushing16 s v = .ok t) : R s t := by
  simp only [Machine.pushing16, Res.bind_eq_ok, Res.pure_eq, Except.ok.injEq] at h
  obtain ⟨u, h, rfl⟩ := h
  exact F.advanced (F.pushed16 h) 1

theorem pushing32 {v : Long} (h : Machine.pushing32 s v = .ok t) : R s t := by
  simp only [Machine.pushing32, Res.bind_eq_ok, Res.pure_eq, Except.ok.injEq] at h
  obtain ⟨u, h, rfl⟩ := h
  exact F.advanced (F.pushed32 h) 1

theorem popping16 {f : Word → State → State} (h : Machine.popping16 s f = .ok t) (hf : ∀ v u, Regs i u (f v u)) :
    R s t := by
  simp only [Machine.popping16, Res.bind_eq_ok, Res.pure_eq, Except.ok.injEq] at h
  obtain ⟨⟨v, u⟩, h, rfl⟩ := h
  exact F.advanced (F.trans (F.regs (regs_pop16 h)) (F.regs (hf v u))) 1

theorem popping32 {f : Long → State → State} (h : Machine.popping32 s f = .ok t) (hf : ∀ v u, Regs i u (f v u)) :
    R s t := by
  simp only [Machine.popping32, Res.bind_eq_ok, Res.pure_eq, Except.ok.injEq] at h
  obtain ⟨⟨v, u⟩, h, rfl⟩ := h
  exact F.advanced (F.trans (F.regs (regs_pop32 h)) (F.regs (hf v u))) 1

/-- A condition tested, after the operand's pointer update. -/
theorem tested {c : Cond} {w : Width} {pl : Place} {u : State} (h : resolve w loc s = .ok (pl, u))
    (hi : c.testsV = true → i.clearsV = true) : R s { u with st0 := condFlags s.st0 c } := by
  have st0_eq : u.st0 = s.st0 := by rw [resolve_frame h]
  exact F.trans (F.resolved h) (F.regs (regs_st0 (st0_eq ▸ condFlags_effect _ hi)))

theorem condStore16 {c : Cond} {v : Word} (h : Machine.condStore16 c loc s v = .next t)
    (hi : c.testsV = true → i.clearsV = true) : R s t := by
  refine F.withLoc h fun hb => ?_
  simp only [Res.bind_eq_ok, Res.pure_eq] at hb
  obtain ⟨_, -, ⟨pl, s1⟩, hr, hb⟩ := hb
  split at hb
  · obtain ⟨u, hw, hb⟩ := Res.bind_eq_ok.1 hb
    cases hb
    exact F.advanced (F.trans (F.tested hr hi) (F.place16 hw)) 2
  · cases hb; exact F.advanced (F.tested hr hi) 2

theorem condStore32 {c : Cond} (h : execMovlLoc32AccCond c loc s = .next t)
    (hi : c.testsV = true → i.clearsV = true) : R s t := by
  refine F.withLoc h fun hb => ?_
  simp only [Res.bind_eq_ok, Res.pure_eq] at hb
  obtain ⟨_, -, ⟨pl, s1⟩, hr, hb⟩ := hb
  split at hb
  · obtain ⟨u, hw, hb⟩ := Res.bind_eq_ok.1 hb
    cases hb
    exact F.advanced (F.trans (F.tested hr hi) (F.place32 hw)) 2
  · cases hb; exact F.advanced (F.tested hr hi) 2

theorem condBranch {c : Cond} {target : ProgAddr} (h : Machine.condBranch c len target s = .next t)
    (hi : c.testsV = true → i.clearsV = true) : R s t := by
  simp only [Machine.condBranch, Res.toOutcome_next, Res.bind_eq_ok, Res.pure_eq, Except.ok.injEq] at h
  obtain ⟨_, -, rfl⟩ := h
  exact F.regs ⟨rfl, condFlags_effect _ hi⟩

end Frame

end Sys2Proof.Machine
end

section
-- One proof at a time: elaborated side by side, the proofs of the joined text need more memory than a check has.
set_option Elab.async false
/-! PROOFS. Every ordinary instruction keeps a frame: the instructions with a word operand, with a long operand and
with none, by the shape of their meaning. -/

namespace Sys2Proof.Machine

/-! ## The remaining shapes -/

section
variable {i : Instr} {s : State}

theorem regs_setAcc {r : Long × St0} (h : St0Keeps s.st0 r.2) : Regs i s (s.setAcc r) := ⟨rfl, h.effect⟩

/-- An instruction of Table 2-9 may write TC besides. -/
theorem St0Keeps.effect_of_writesTc {f g : St0} {b : Bool} (h : St0Keeps { f with tc := b } g)
    (hi : i.writesTc = true) : St0Effect i f g :=
  ⟨fun _ => h.v, fun keeps => Bool.noConfusion (keeps.symm.trans hi), fun _ => ⟨h.ovm, h.sxm⟩, fun _ => h.pm⟩

theorem regs_setTc (b : Bool) (hi : i.writesTc = true) : Regs i s (s.setTc b) :=
  ⟨rfl, (St0Keeps.refl _).effect_of_writesTc hi⟩

theorem regs_accAddP : Regs i s s.accAddP := regs_setAcc (addAcc_keeps ..)

theorem regs_mac (v m : Word) : Regs i s (s.mac v m) := ⟨rfl, (addAcc_keeps ..).effect⟩

end

namespace Frame

variable {i : Instr} {R : State → State → Prop} (F : Frame i R) {s t : State} {loc : Loc}
include F

theorem macConst {base : ProgAddr} (h : Machine.macConst base loc s = .next t) : R s t := by
  refine F.withLoc h fun hb => ?_
  simp only [Res.bind_eq_ok, Res.pure_eq, Except.ok.injEq] at hb
  obtain ⟨⟨v, u⟩, hr, m, -, rfl⟩ := hb
  obtain ⟨pl, hr, -⟩ := readLoc16_cases hr
  exact F.advanced (F.trans (F.trans (F.resolved hr) (F.regs (regs_mac v m))) (F.step ..)) 2

theorem macXar7 (h : execMacXar7 loc s = .next t) : R s t := by
  refine F.withLoc h fun hb => ?_
  simp only [Res.bind_eq_ok, Res.pure_eq, Except.ok.injEq] at hb
  obtain ⟨_, -, ⟨v, u⟩, hr, m, -, rfl⟩ := hb
  obtain ⟨pl, hr, -⟩ := readLoc16_cases hr
  exact F.advanced (F.trans (F.trans (F.resolved hr) (F.regs (regs_mac v m))) (F.step ..)) 2

theorem macXar7Inc (h : execMacXar7Inc loc s = .next t) : R s t := by
  refine F.withLoc h fun hb => ?_
  simp only [Res.bind_eq_ok, Res.pure_eq, Except.ok.injEq] at hb
  obtain ⟨_, -, ⟨v, u⟩, hr, m, -, rfl⟩ := hb
  obtain ⟨pl, hr, -⟩ := readLoc16_cases hr
  exact F.advanced (F.trans (F.resolved hr) (F.regs ⟨rfl, (addAcc_keeps ..).effect⟩)) 2

theorem macLong {k : ProgAddr} {f : Long → Long → State → State} (h : Machine.macLong loc s k f = .next t)
    (hf : ∀ v m u, Regs i u (f v m u)) : R s t := by
  refine F.withLoc h fun hb => ?_
  simp only [Res.bind_eq_ok, Res.pure_eq, Except.ok.injEq] at hb
  obtain ⟨_, -, ⟨v, u⟩, hr, m, -, rfl⟩ := hb
  obtain ⟨pl, hr, -⟩ := readLoc32_cases hr
  exact F.advanced (F.trans (F.trans (F.resolved hr) (F.regs (hf v m u))) (F.step ..)) 2

theorem macLongInc {f : Long → Long → State → State} (h : Machine.macLongInc loc s f = .next t)
    (hf : ∀ v m u, Regs i u (f v m u)) : R s t := by
  refine F.withLoc h fun hb => ?_
  simp only [Res.bind_eq_ok, Res.pure_eq, Except.ok.injEq] at hb
  obtain ⟨_, -, ⟨v, u⟩, hr, m, -, rfl⟩ := hb
  obtain ⟨pl, hr, -⟩ := readLoc32_cases hr
  have bumped : R (f v m u) ((f v m u).bumpXar7 2) := F.regs ⟨rfl, .refl ..⟩
  exact F.advanced (F.trans (F.trans (F.resolved hr) (F.regs (hf v m u))) bumped) 2

theorem movad (h : execMovad loc s = .next t) : R s t := by
  refine F.withLoc h fun hb => ?_
  simp only [Res.bind_eq_ok, Res.pure_eq] at hb
  obtain ⟨⟨pl, u⟩, hr, hb⟩ := hb
  cases pl with
  | reg r => cases hb
  | mem a =>
    simp only [Res.bind_eq_ok, Except.ok.injEq] at hb
    obtain ⟨v, -, x, hw, rfl⟩ := hb
    have loaded : R u (u.accAddP.setT v) := F.regs ⟨rfl, (addAcc_keeps ..).effect⟩
    exact F.advanced (F.trans (F.trans (F.resolved hr) loaded) (F.write hw)) 1

theorem xmacd {c : BitVec 16} (h : execXmacd loc c s = .next t) : R s t := by
  refine F.withLoc h fun hb => ?_
  simp only [Res.bind_eq_ok, Res.pure_eq] at hb
  obtain ⟨⟨pl, u⟩, hr, hb⟩ := hb
  cases pl with
  | reg r => cases hb
  | mem a =>
    simp only [Res.bind_eq_ok, Except.ok.injEq] at hb
    obtain ⟨v, -, m, -, x, hw, rfl⟩ := hb
    exact F.advanced (F.trans (F.trans (F.trans (F.resolved hr) (F.regs (regs_mac v m))) (F.step ..)) (F.write hw)) 2

theorem pread (h : execPread loc s = .next t) : R s t := by
  refine F.withLoc h fun hb => ?_
  simp only [Res.bind_eq_ok, Res.pure_eq, Except.ok.injEq] at hb
  obtain ⟨⟨pl, u⟩, hr, v, -, x, hw, rfl⟩ := hb
  exact F.advanced (F.trans (F.trans (F.resolved hr) (F.step ..)) (F.place16 hw)) 1

theorem pwrite (h : execPwrite loc s = .next t) : R s t := by
  refine F.withLoc h fun hb => ?_
  simp only [Res.bind_eq_ok, Res.pure_eq, Except.ok.injEq] at hb
  obtain ⟨⟨v, u⟩, hr, x, hw, rfl⟩ := hb
  obtain ⟨pl, hr, -⟩ := readLoc16_cases hr
  exact F.advanced (F.trans (F.trans (F.resolved hr) (F.step ..)) (F.writeProg hw)) 1

theorem xcall {c : Cond} {k : BitVec 16} (h : execXcall c k s = .next t)
    (hi : c.testsV = true → i.clearsV = true) : R s t := by
  simp only [execXcall, Res.toOutcome_next, Res.bind_eq_ok, Res.pure_eq] at h
  obtain ⟨_, -, h⟩ := h
  have tested : R s { s with st0 := condFlags s.st0 c } := F.regs (regs_st0 (condFlags_effect _ hi))
  split at h
  · obtain ⟨u, hp, h⟩ := Res.bind_eq_ok.1 h
    cases h
    exact F.trans (F.trans tested (F.pushed16 hp)) (F.regs ⟨rfl, .refl ..⟩)
  · cases h; exact F.advanced tested 2

theorem xretc {c : Cond} (h : execXretc c s = .next t) (hi : c.testsV = true → i.clearsV = true) :
    R s t := by
  simp only [execXretc, Res.toOutcome_next, Res.bind_eq_ok, Res.pure_eq] at h
  obtain ⟨_, -, h⟩ := h
  have tested : R s { s with st0 := condFlags s.st0 c } := F.regs (regs_st0 (condFlags_effect _ hi))
  split at h
  · obtain ⟨⟨v, u⟩, hp, h⟩ := Res.bind_eq_ok.1 h
    cases h
    exact F.trans (F.trans tested (F.regs (regs_pop16 hp))) (F.regs ⟨rfl, .refl ..⟩)
  · cases h; exact F.advanced tested 1

/-- NORM writes TC, which its own row allows. -/
theorem norm {f : State → State} (h : Machine.register 1 (s.norm f) = .next t) (hi : i.writesTc = true)
    (hf : Regs i s (f s)) : R s t := by
  have tc : ∀ (r : Long) (b : Bool), St0Effect i s.st0 (setNZ { s.st0 with tc := b } r) := fun r b =>
    (setNZ_keeps _ r).effect_of_writesTc hi
  refine F.register h ?_
  unfold State.norm
  split
  · exact regs_st0 (tc ..)
  · obtain ⟨hf, -⟩ := hf
    rw [hf]
    exact ⟨rfl, tc ..⟩

end Frame

/-! ## Every ordinary instruction -/

section
variable {i : Instr} {R : State → State → Prop} (F : Frame i R) {s t : State} {loc : Loc}
include F

theorem exec_frame_word (hl : locOperand i = some (.word, loc)) (hi : i.isSystem = false) (h : exec i s = .next t) :
    R s t := by
  cases i <;> cases hl
  all_goals simp only [exec] at h
  case movIerLoc16 | rptLoc16 | loopnz | loopz => cases hi
  case movOvcLoc16 | movuOvcLoc16 => exact F.reading16 h fun _ _ => ⟨rfl, St0Keeps.effect ⟨id, rfl, rfl, rfl, rfl⟩⟩
  case addAccLoc16 | addAccLoc16Shl | addAccLoc16ShlT | addcuAcc | adduAcc =>
    exact F.reading16 h fun _ _ => regs_setAcc (addAcc_keeps ..)
  case subAccLoc16 | subAccLoc16Shl | subAccLoc16ShlT | sbbuAcc | subuAcc =>
    exact F.reading16 h fun _ _ => regs_setAcc (subAcc_keeps ..)
  case addAccLoc16Shl16 =>
    exact F.reading16 h fun _ _ => regs_setAcc (keepCarrySet_keeps _ (addAcc_keeps ..))
  case subAccLoc16Shl16 =>
    exact F.reading16 h fun _ _ => regs_setAcc (keepCarryClear_keeps _ (subAcc_keeps ..))
  case subcu => exact F.reading16 h fun _ _ => regs_setAcc (subcuOp_keeps ..)
  case addAxLoc16 ax => exact F.reading16 h fun _ _ => by cases ax <;> exact ⟨rfl, (add16_keeps ..).effect⟩
  case subAxLoc16 ax => exact F.reading16 h fun _ _ => by cases ax <;> exact ⟨rfl, (sub16_keeps ..).effect⟩
  case maxAx ax => exact F.reading16 h fun _ _ => by cases ax <;> exact ⟨rfl, (maxOp_keeps ..).effect⟩
  case minAx ax => exact F.reading16 h fun _ _ => by cases ax <;> exact ⟨rfl, (minOp_keeps ..).effect⟩
  case cmpAxLoc16 | cmpLoc16Imm => exact F.reading16 h fun _ _ => regs_st0 (cmpFlags_keeps ..).effect
  case addLoc16Ax | addLoc16Imm | incLoc16 => exact F.updating16 h fun _ => (add16_keeps ..).effect
  case subLoc16Ax | subrLoc16Ax | decLoc16 => exact F.updating16 h fun _ => (sub16_keeps ..).effect
  case tbitImm | tbitT => exact F.reading16 h fun _ _ => regs_setTc _ rfl
  case tclr | tset => exact F.updating16 h fun _ => (St0Keeps.refl _).effect_of_writesTc rfl
  case mova => exact F.reading16 h fun _ _ => ⟨rfl, (addAcc_keeps ..).effect⟩
  case movs => exact F.reading16 h fun _ _ => ⟨rfl, (subAcc_keeps ..).effect⟩
  case movp | mpyAccT | mpyAccImm => exact F.reading16 h fun _ _ => ⟨rfl, (setNZ_keeps ..).effect⟩
  case mpyPT | mpyPImm => exact F.reading16 h fun _ _ => ⟨rfl, .refl ..⟩
  case mpyaPImm | mpyaPT | sqra => exact F.reading16 h fun _ _ => ⟨rfl, (addAcc_keeps ..).effect⟩
  case mpysPT | sqrs => exact F.reading16 h fun _ _ => ⟨rfl, (subAcc_keeps ..).effect⟩
  case movad => exact F.movad h
  case macPma | xmac => exact F.macConst h
  case macXar7 => exact F.macXar7 h
  case macXar7Inc => exact F.macXar7Inc h
  case xmacd => exact F.xmacd h
  case movAccLoc16 | movAccLoc16Shl | movAccLoc16Shl16 | movAccLoc16ShlT =>
    exact F.reading16 h fun _ _ => regs_setAcc (setNZ_keeps ..)
  case movLoc16AccShl1 | movLoc16AccShl | movhLoc16AccShl1 | movhLoc16AccShl | movLoc16P | movhLoc16P | movLoc16Ier =>
    exact F.storing16 h
  case movLoc16AxCond | movbLoc16Cond => exact F.condStore16 h id
  case movArx => exact F.reading16 h fun _ _ => ⟨rfl, .refl ..⟩
  case pread => exact F.pread h
  case pwrite => exact F.pwrite h
  case addAccP => exact F.withLoc h fun hb => by cases hb; exact F.advanced (F.regs (regs_setAcc (addAcc_keeps ..))) 1
  case subAccP => exact F.withLoc h fun hb => by cases hb; exact F.advanced (F.regs (regs_setAcc (subAcc_keeps ..))) 1
  case movAccP => exact F.withLoc h fun hb => by cases hb; exact F.advanced (F.regs (regs_setAcc (setNZ_keeps ..))) 1
  case pushIer => exact F.withLoc h fun hb => F.pushing16 hb

theorem exec_frame_long (hl : locOperand i = some (.long, loc)) (h : exec i s = .next t) : R s t := by
  cases i <;> cases hl
  all_goals simp only [exec] at h
  case addclAcc | addlAcc => exact F.reading32 h fun _ _ => regs_setAcc (addAcc_keeps ..)
  case subblAcc | sublAcc => exact F.reading32 h fun _ _ => regs_setAcc (subAcc_keeps ..)
  case addulAcc => exact F.reading32 h fun _ _ => regs_setAcc (addU32_keeps ..)
  case subulAcc => exact F.reading32 h fun _ _ => regs_setAcc (subU32_keeps ..)
  case addulP => exact F.reading32 h fun _ _ => ⟨rfl, (addU32_keeps ..).effect⟩
  case subulP => exact F.reading32 h fun _ _ => ⟨rfl, (subU32_keeps ..).effect⟩
  case cmplAcc => exact F.reading32 h fun _ _ => regs_st0 (cmpFlags_keeps ..).effect
  case maxlAcc => exact F.reading32 h fun _ _ => regs_setAcc (maxOp_keeps ..)
  case minlAcc => exact F.reading32 h fun _ _ => regs_setAcc (minOp_keeps ..)
  case subcul => exact F.reading32 h fun _ _ => ⟨rfl, (subculOp_keeps ..).effect⟩
  case addlLoc32Acc => exact F.updating32 h fun _ => (addAcc_keeps ..).effect
  case sublLoc32Acc | subrlLoc32Acc => exact F.updating32 h fun _ => (subAcc_keeps ..).effect
  case impyl | impyxul => exact F.reading32 h fun _ _ => ⟨rfl, .refl ..⟩
  case impyal => exact F.reading32 h fun _ _ => ⟨rfl, (addU32_keeps ..).effect⟩
  case impysl => exact F.reading32 h fun _ _ => ⟨rfl, (subU32_keeps ..).effect⟩
  case qmpyal => exact F.reading32 h fun _ _ => ⟨rfl, (addAcc_keeps ..).effect⟩
  case qmpysl => exact F.reading32 h fun _ _ => ⟨rfl, (subAcc_keeps ..).effect⟩
  case dmacXar7 | qmaclXar7 => exact F.macLong h fun _ _ _ => ⟨rfl, (addAcc_keeps ..).effect⟩
  case imaclXar7 => exact F.macLong h fun _ _ _ => ⟨rfl, (addU32_keeps ..).effect⟩
  case dmacXar7Inc | qmaclXar7Inc => exact F.macLongInc h fun _ _ _ => ⟨rfl, (addAcc_keeps ..).effect⟩
  case imaclXar7Inc => exact F.macLongInc h fun _ _ _ => ⟨rfl, (addU32_keeps ..).effect⟩
  case movlLoc32AccCond => exact F.condStore32 h id
  case pushXar0 | pushXar1 | pushXar2 | pushXar3 | pushXar4 | pushXar5 | pushXar6 | pushXar7 | pushXt =>
    exact F.withLoc h fun hb => F.pushing32 hb
  case popXar0 | popXar1 | popXar2 | popXar3 | popXar4 | popXar5 | popXar6 | popXar7 | popXt =>
    exact F.withLoc h fun hb => F.popping32 hb fun _ _ => ⟨rfl, .refl ..⟩

theorem exec_frame_no_loc (hl : locOperand i = none) (hi : i.isSystem = false) (h : exec i s = .next t) : R s t := by
  cases i <;> cases hl
  all_goals simp only [exec] at h
  case setcMode | clrcMode | setcXf | clrcXf | setcObjmode | clrcObjmode | setcAmode | clrcAmode | eallow | edis | asp
      | nasp | orIer | andIer | orIfr | andIfr | popDbgier | popSt1 | lcr | lretr | rptImm | idle | intr | intrNmi
      | trap | iret | aborti | iack => cases hi
  case zapOvc | zapa => exact F.register h ⟨rfl, St0Keeps.effect ⟨id, rfl, rfl, rfl, rfl⟩⟩
  case spm => exact F.register h ⟨rfl, fun _ => id, fun _ => rfl, fun _ => ⟨rfl, rfl⟩, nofun⟩
  case addAccImmShl | addbAcc => exact F.register h (regs_setAcc (addAcc_keeps ..))
  case subAccImmShl | subbAcc => exact F.register h (regs_setAcc (subAcc_keeps ..))
  case movAccImmShl => exact F.register h (regs_setAcc (setNZ_keeps ..))
  case cmplAccP | cmpbAx => exact F.register h (regs_st0 (cmpFlags_keeps ..).effect)
  case testAcc => exact F.register h (regs_st0 (setNZ_keeps ..).effect)
  case absAcc => exact F.register h (regs_setAcc (absOp_keeps ..))
  case abstcAcc => exact F.register h ⟨rfl, (absOp_keeps ..).effect_of_writesTc rfl⟩
  case negAcc => exact F.register h (regs_setAcc (negOp_keeps ..))
  case negtcAcc =>
    refine F.register h ?_
    split
    · exact regs_setAcc (negOp_keeps ..)
    · exact regs_st0 (setNZ_keeps ..).effect
  case neg64AccP => exact F.register h ⟨rfl, (negOp_keeps ..).effect⟩
  case satAcc | sat64AccP =>
    exact F.register h ⟨rfl, nofun, fun _ => rfl, fun _ => ⟨rfl, rfl⟩, fun _ => rfl⟩
  case normXarInc | normXarDec | normInd | normIndInc | normIndDec | normInd0Inc | normInd0Dec =>
    exact F.norm h rfl ⟨rfl, .refl ..⟩
  case csb => exact F.register h ⟨rfl, (setNZ_keeps ..).effect_of_writesTc rfl⟩
  case addbAx ax _ => exact F.register h (by cases ax <;> exact ⟨rfl, (add16_keeps ..).effect⟩)
  case negAx ax => exact F.register h (by cases ax <;> exact ⟨rfl, (neg16_keeps ..).effect⟩)
  case cmpr0 | cmpr1 | cmpr2 | cmpr3 => exact F.register h (regs_setTc _ rfl)
  case lslAccImm | lslAccT | lsllAccT => exact F.register h (regs_setAcc (lsl_keeps ..))
  case lsrlAccT => exact F.register h (regs_setAcc (lsr_keeps ..))
  case asrlAccT => exact F.register h (regs_setAcc (asr_keeps ..))
  case sfrAccImm | sfrAccT => exact F.register h (regs_setAcc (sfr_keeps ..))
  case rolAcc => exact F.register h (regs_setAcc (rol_keeps ..))
  case rorAcc => exact F.register h (regs_setAcc (ror_keeps ..))
  case lslAxImm ax _ | lslAxT ax => exact F.register h (by cases ax <;> exact ⟨rfl, (lsl_keeps ..).effect⟩)
  case lsrAxImm ax _ | lsrAxT ax => exact F.register h (by cases ax <;> exact ⟨rfl, (lsr_keeps ..).effect⟩)
  case asrAxImm ax _ | asrAxT ax => exact F.register h (by cases ax <;> exact ⟨rfl, (asr_keeps ..).effect⟩)
  case lsl64Imm | lsl64T => exact F.register h ⟨rfl, (lsl_keeps ..).effect⟩
  case lsr64Imm | lsr64T => exact F.register h ⟨rfl, (lsr_keeps ..).effect⟩
  case asr64Imm | asr64T => exact F.register h ⟨rfl, (asr_keeps ..).effect⟩
  case movbAr | estop0 | estop1 => exact F.register h ⟨rfl, .refl ..⟩
  case pushIfr | pushDbgier | pushSt0 | pushSt1 => exact F.pushing16 (Res.toOutcome_next.1 h)
  case pushAr1hAr0h => exact F.pushing32 (Res.toOutcome_next.1 h)
  case popSt0 =>
    exact F.popping16 (Res.toOutcome_next.1 h) fun _ _ => ⟨rfl, nofun, nofun, nofun, nofun⟩
  case popAr1hAr0h => exact F.popping32 (Res.toOutcome_next.1 h) fun _ _ => ⟨rfl, .refl ..⟩
  case b | bf | sb | xb => exact F.condBranch h id
  case sbfEq | sbfNeq | sbfTc | sbfNtc | banz | barEq | barNeq | xbanzInd | xbanzIndInc | xbanzIndDec | xbanzInd0Inc
      | xbanzInd0Dec => exact F.next h ⟨rfl, .refl ..⟩
  case xcall => exact F.xcall h id
  case xretc => exact F.xretc h id

/-- Every instruction but the system instructions keeps every frame. -/
theorem exec_frame (hi : i.isSystem = false) (h : exec i s = .next t) : R s t := by
  rcases hl : locOperand i with _ | ⟨w, loc⟩
  · exact exec_frame_no_loc F hl hi h
  · cases w with
    | word => exact exec_frame_word F hl hi h
    | long => exact exec_frame_long F hl h

end

end Sys2Proof.Machine
end

section
-- One proof at a time: elaborated side by side, the proofs of the joined text need more memory than a check has.
set_option Elab.async false
/-! PROOFS. What a system instruction does of its own, and from it what every instruction may change: the writers of
the system registers, of the fields of ST0 and of the bits of ST1 (10_state.md). -/

namespace Sys2Proof.Machine

/-! ## The system instructions -/

/-- What a system instruction does besides its operand's pointer update, its pushes and its pops. -/
def Own (i : Instr) (s t : State) : Prop :=
  match i with
  | .movIerLoc16 _ => ∃ v, t = { s with ier := v }
  | .rptLoc16 _ => ∃ v, t = s.startRepeat v
  | .loopnz _ _ | .loopz _ _ => ∃ v again, t = s.loopStep v again
  | .popDbgier => ∃ v, t = { s with dbgier := v }
  | .popSt1 => ∃ v, t = { s with st1 := s.st1.load v }
  | .lcr _ => ∃ rpc pc, t = { s with rpc := rpc, pc := pc }
  | .lretr => ∃ rpc pc, t = { s with rpc := rpc, pc := pc }
  | .intr c => ∃ r, maskableEntry s (c - 1) r = .ok t
  | .intrNmi | .trap _ => ∃ n r, trapEntry s n r = .ok t
  | .iret => ∃ pc ier dp w p acc f sp, t =
      { s with pc := pc, ier := ier, dp := dp, st1 := s.st1.load w, p := p, acc := acc, st0 := f, sp := sp, stores := [],
               reads := [] }
  | i => exec i s = .next t

section
variable {i : Instr} {R : State → State → Prop} (F : Frame i R) {s t : State} {len : ProgAddr} {loc : Loc}
include F

theorem Frame.reading16_then {f : Word → State → State} (h : Machine.reading16 len loc s f = .next t)
    (hf : ∀ v u, R u (f v u)) : R s t := by
  refine F.withLoc h fun hb => ?_
  simp only [Res.bind_eq_ok, Res.pure_eq, Except.ok.injEq] at hb
  obtain ⟨⟨v, u⟩, hr, rfl⟩ := hb
  obtain ⟨pl, hr, -⟩ := readLoc16_cases hr
  exact F.advanced (F.trans (F.resolved hr) (hf v u)) len

theorem Frame.popping16_then {f : Word → State → State} (h : Machine.popping16 s f = .ok t) (hf : ∀ v u, R u (f v u)) :
    R s t := by
  simp only [Machine.popping16, Res.bind_eq_ok, Res.pure_eq, Except.ok.injEq] at h
  obtain ⟨⟨v, u⟩, h, rfl⟩ := h
  exact F.advanced (F.trans (F.regs (regs_pop16 h)) (hf v u)) 1

/-- One evaluation of a loop instruction, whatever its test. -/
theorem Frame.loop {f : Word → Word} {g : Word → Bool} (hf : ∀ u v b, R u (u.loopStep v b))
    (h : Machine.withLoc .word loc s (do let (v, s1) ← readLoc16 s loc; return s1.loopStep (f v) (g v)) = .next t) :
    R s t := by
  refine F.withLoc h fun hb => ?_
  simp only [Res.bind_eq_ok, Res.pure_eq, Except.ok.injEq] at hb
  obtain ⟨⟨v, u⟩, hr, rfl⟩ := hb
  obtain ⟨pl, hr, -⟩ := readLoc16_cases hr
  exact F.trans (F.resolved hr) (hf u _ _)

theorem Frame.lcr {c : BitVec 22} (own : ∀ {s t}, Own (.lcr c) s t → R s t) (h : execLcr c s = .next t) : R s t := by
  simp only [execLcr, Res.toOutcome_next, Res.bind_eq_ok, Res.pure_eq, Except.ok.injEq] at h
  obtain ⟨u, h1, v, h2, rfl⟩ := h
  exact F.trans (F.trans (F.pushed16 h1) (F.pushed16 h2)) (own ⟨_, _, rfl⟩)

theorem Frame.lretr (own : ∀ {s t}, Own .lretr s t → R s t) (h : execLretr s = .next t) : R s t := by
  simp only [execLretr, Res.toOutcome_next, Res.bind_eq_ok, Res.pure_eq, Except.ok.injEq] at h
  obtain ⟨⟨hi, u⟩, h1, ⟨lo, v⟩, h2, rfl⟩ := h
  exact F.trans (F.trans (F.regs (regs_pop16 h1)) (F.regs (regs_pop16 h2))) (own ⟨_, _, rfl⟩)

theorem Frame.iret (own : ∀ {s t}, Own .iret s t → R s t) (h : iretRestore s = .ok t) : R s t := by
  simp only [iretRestore, Res.bind_eq_ok, Res.pure_eq, Except.ok.injEq] at h
  obtain ⟨⟨v1, s1⟩, h1, ⟨v2, s2⟩, h2, ⟨v3, s3⟩, h3, ⟨v4, s4⟩, h4, ⟨v5, s5⟩, h5, ⟨v6, s6⟩, h6, ⟨v7, s7⟩, h7, rfl⟩ := h
  have popped {v : Long} {s t : State} (h : pop32 s = .ok (v, t)) : R s t := F.regs (regs_pop32 h)
  have loaded (u : State) (a b c : Word) : R u (((u.setAr .xar1 a).setAr .xar0 b).setT c) := F.regs ⟨rfl, .refl ..⟩
  have all_popped : R s s7 := F.trans (F.trans (F.trans (F.trans (F.trans (F.trans (popped h1) (popped h2)) (popped h3))
    (popped h4)) (popped h5)) (popped h6)) (popped h7)
  refine F.trans (F.trans all_popped (loaded s7 (highWord v4) (lowWord v4) (highWord v7))) (own ?_)
  exact ⟨_, _, _, _, _, _, _, _, rfl⟩

/-- A system instruction keeps every frame that what it does of its own keeps. -/
theorem exec_own (own : ∀ {s t}, Own i s t → R s t) (hi : i.isSystem = true) (h : exec i s = .next t) : R s t := by
  cases i
  case movIerLoc16 | rptLoc16 =>
    simp only [exec] at h
    exact F.reading16_then h fun v _ => own ⟨v, rfl⟩
  case loopnz loc c => exact F.loop (f := (· &&& c)) (g := (· &&& c != 0)) (fun _ v b => own ⟨v, b, rfl⟩) h
  case loopz loc c => exact F.loop (f := (· &&& c)) (g := (· &&& c == 0)) (fun _ v b => own ⟨v, b, rfl⟩) h
  case popDbgier | popSt1 => exact F.popping16_then (Res.toOutcome_next.1 h) fun v _ => own ⟨v, rfl⟩
  case lcr => exact F.lcr own h
  case lretr => exact F.lretr own h
  case intr => exact own ⟨_, Res.toOutcome_next.1 h⟩
  case intrNmi | trap => exact own ⟨_, _, Res.toOutcome_next.1 h⟩
  case iret => exact F.iret own (Res.toOutcome_next.1 h)
  case setcMode | clrcMode | setcXf | clrcXf | setcObjmode | clrcObjmode | setcAmode | clrcAmode | eallow | edis | asp
      | nasp | orIer | andIer | orIfr | andIfr | rptImm | idle | aborti | iack => exact own h
  all_goals cases hi

/-- Every instruction keeps every frame that its own doing keeps. -/
theorem exec_keeps (own : ∀ {s t}, i.isSystem = true → Own i s t → R s t) (h : exec i s = .next t) : R s t := by
  cases hi : i.isSystem with
  | false => exact exec_frame F hi h
  | true => exact exec_own F (own hi) hi h

end

/-! ## The system registers -/

/-- The instructions that write RPC (R28). -/
def writesRpc : Instr → Bool
  | .lcr _ | .lretr => true
  | _ => false

/-- The instruction that writes DBGIER (R64). -/
def writesDbgier : Instr → Bool
  | .popDbgier => true
  | _ => false

/-- The instructions that write IFR (R62). -/
def writesIfr : Instr → Bool
  | .orIfr _ | .andIfr _ | .intr _ => true
  | _ => false

/-- The instructions that write IER (R63). -/
def writesIer : Instr → Bool
  | .iret | .movIerLoc16 _ | .orIer _ | .andIer _ | .intr _ => true
  | _ => false

/-- The instruction that loads DP (R530). -/
def writesDp : Instr → Bool
  | .iret => true
  | _ => false

/-- The instruction that emits an acknowledge event (R462). -/
def acknowledges : Instr → Bool
  | .iack _ => true
  | _ => false

/-- What the instruction `i` may do to the system registers, the requests and the events. -/
structure SysEffect (i : Instr) (s t : State) : Prop where
  rpc : writesRpc i = false → t.rpc = s.rpc
  dbgier : writesDbgier i = false → t.dbgier = s.dbgier
  ifr : writesIfr i = false → t.ifr = s.ifr
  ier : writesIer i = false → t.ier = s.ier
  dp : writesDp i = false → t.dp = s.dp
  acks : acknowledges i = false → t.acks = s.acks
  dbgstat : t.dbgstat = s.dbgstat
  nmiPending : t.nmiPending = s.nmiPending
  resetRequest : t.resetRequest = s.resetRequest
  icount : t.icount = s.icount

theorem SysEffect.trans {i : Instr} {s t u : State} (h : SysEffect i s t) (h' : SysEffect i t u) : SysEffect i s u where
  rpc hi := (h'.rpc hi).trans (h.rpc hi)
  dbgier hi := (h'.dbgier hi).trans (h.dbgier hi)
  ifr hi := (h'.ifr hi).trans (h.ifr hi)
  ier hi := (h'.ier hi).trans (h.ier hi)
  dp hi := (h'.dp hi).trans (h.dp hi)
  acks hi := (h'.acks hi).trans (h.acks hi)
  dbgstat := h'.dbgstat.trans h.dbgstat
  nmiPending := h'.nmiPending.trans h.nmiPending
  resetRequest := h'.resetRequest.trans h.resetRequest
  icount := h'.icount.trans h.icount

/-- States that differ in none of these fields. -/
def SysSame (s t : State) : Prop :=
  t.rpc = s.rpc ∧ t.dbgier = s.dbgier ∧ t.ifr = s.ifr ∧ t.ier = s.ier ∧ t.dp = s.dp ∧ t.acks = s.acks ∧
    t.dbgstat = s.dbgstat ∧ t.nmiPending = s.nmiPending ∧ t.resetRequest = s.resetRequest ∧ t.icount = s.icount

theorem SysSame.effect {i : Instr} {s t : State} (h : SysSame s t) : SysEffect i s t :=
  let ⟨rpc, dbgier, ifr, ier, dp, acks, dbgstat, nmi, reset, icount⟩ := h
  ⟨fun _ => rpc, fun _ => dbgier, fun _ => ifr, fun _ => ier, fun _ => dp, fun _ => acks, dbgstat, nmi, reset, icount⟩

theorem and_not_zero (x : Word) : x &&& ~~~(0 : Word) = x := BitVec.and_allOnes

/-- Taking an interrupt or a trap touches IFR and IER alone, and those only for a maskable line. -/
theorem enterInterrupt_sys {i : Instr} {s t : State} {n : BitVec 5} {r : ProgAddr} {l : Option (BitVec 4)}
    (h : enterInterrupt s n r l = .ok t) (hi : writesIfr i = false ∨ writesIer i = false → l = none) :
    SysEffect i s t := by
  obtain ⟨pc, -, e⟩ := enterInterrupt_rest h
  have ifr_eq := congrArg State.ifr e
  have ier_eq := congrArg State.ier e
  refine ⟨fun _ => (congrArg State.rpc e : _), fun _ => (congrArg State.dbgier e : _), fun hw => ?_, fun hw => ?_,
    fun _ => (congrArg State.dp e : _), fun _ => (congrArg State.acks e : _), (congrArg State.dbgstat e : _),
    (congrArg State.nmiPending e : _), (congrArg State.resetRequest e : _), (congrArg State.icount e : _)⟩
  · rw [hi (.inl hw)] at ifr_eq; exact ifr_eq.trans (and_not_zero _)
  · rw [hi (.inr hw)] at ier_eq; exact ier_eq.trans (and_not_zero _)

theorem trapEntry_sys {i : Instr} {s t : State} {n : BitVec 5} {r : ProgAddr} (h : trapEntry s n r = .ok t) :
    SysEffect i s t := enterInterrupt_sys (l := none) h fun _ => rfl

theorem sysEffect_frame (i : Instr) : Frame i (SysEffect i) where
  trans := SysEffect.trans
  regs h := by rw [h.1]; exact SysSame.effect ⟨rfl, rfl, rfl, rfl, rfl, rfl, rfl, rfl, rfl, rfl⟩
  write h := by
    obtain ⟨-, -, rfl⟩ := (writeData_ok_iff ..).1 h
    exact SysSame.effect ⟨rfl, rfl, rfl, rfl, rfl, rfl, rfl, rfl, rfl, rfl⟩
  writeProg h := by
    obtain ⟨-, rfl⟩ := (writeProg_ok_iff ..).1 h
    exact SysSame.effect ⟨rfl, rfl, rfl, rfl, rfl, rfl, rfl, rfl, rfl, rfl⟩
  step s a k := by
    rw [State.stepOperand_eq]
    exact SysSame.effect ⟨rfl, rfl, rfl, rfl, rfl, rfl, rfl, rfl, rfl, rfl⟩
  trap h := trapEntry_sys h

theorem own_sysEffect {i : Instr} {s t : State} (hi : i.isSystem = true) (h : Own i s t) : SysEffect i s t := by
  cases i
  case setcMode | clrcMode | setcXf | clrcXf | setcObjmode | clrcObjmode | setcAmode | clrcAmode | eallow | edis | asp
      | nasp | rptImm | idle | aborti =>
    cases h
    exact SysSame.effect ⟨rfl, rfl, rfl, rfl, rfl, rfl, rfl, rfl, rfl, rfl⟩
  case orIer | andIer => 
    cases h
    exact ⟨fun _ => rfl, fun _ => rfl, fun _ => rfl, nofun, fun _ => rfl, fun _ => rfl, rfl, rfl, rfl, rfl⟩
  case orIfr | andIfr =>
    cases h
    exact ⟨fun _ => rfl, fun _ => rfl, nofun, fun _ => rfl, fun _ => rfl, fun _ => rfl, rfl, rfl, rfl, rfl⟩
  case iack =>
    cases h
    exact ⟨fun _ => rfl, fun _ => rfl, fun _ => rfl, fun _ => rfl, fun _ => rfl, nofun, rfl, rfl, rfl, rfl⟩
  case movIerLoc16 =>
    obtain ⟨v, rfl⟩ := h
    exact ⟨fun _ => rfl, fun _ => rfl, fun _ => rfl, nofun, fun _ => rfl, fun _ => rfl, rfl, rfl, rfl, rfl⟩
  case rptLoc16 | popSt1 =>
    obtain ⟨v, rfl⟩ := h
    exact SysSame.effect ⟨rfl, rfl, rfl, rfl, rfl, rfl, rfl, rfl, rfl, rfl⟩
  case loopnz | loopz =>
    obtain ⟨v, b, rfl⟩ := h
    exact SysSame.effect ⟨rfl, rfl, rfl, rfl, rfl, rfl, rfl, rfl, rfl, rfl⟩
  case popDbgier =>
    obtain ⟨v, rfl⟩ := h
    exact ⟨fun _ => rfl, nofun, fun _ => rfl, fun _ => rfl, fun _ => rfl, fun _ => rfl, rfl, rfl, rfl, rfl⟩
  case lcr | lretr =>
    obtain ⟨rpc, pc, rfl⟩ := h
    exact ⟨nofun, fun _ => rfl, fun _ => rfl, fun _ => rfl, fun _ => rfl, fun _ => rfl, rfl, rfl, rfl, rfl⟩
  case intr => obtain ⟨r, h⟩ := h; exact enterInterrupt_sys h nofun
  case intrNmi | trap => obtain ⟨n, r, h⟩ := h; exact trapEntry_sys h
  case iret =>
    obtain ⟨pc, ier, dp, w, p, acc, f, sp, rfl⟩ := h
    exact ⟨fun _ => rfl, fun _ => rfl, fun _ => rfl, nofun, nofun, fun _ => rfl, rfl, rfl, rfl, rfl⟩
  all_goals cases hi

theorem exec_sysEffect {i : Instr} {s t : State} (h : exec i s = .next t) : SysEffect i s t :=
  exec_keeps (sysEffect_frame i) own_sysEffect h

end Sys2Proof.Machine

open Sys2Proof Sys2Proof.Machine in
/-- Settles O17: every instruction keeps the system registers but those its row writes (`exec_sysEffect`). -/
theorem systemRegisterWriters : Obligations.SystemRegisterWriters := by
  intro i s t h
  have ⟨rpc, dbgier, ifr, ier, dp, acks, dbgstat, nmi, reset, icount⟩ := exec_sysEffect h
  refine ⟨fun ne => ?_, fun ne => ?_, fun ne => ?_, fun ne => ?_, fun ne => ?_, fun ne => ?_, dbgstat, nmi, reset,
    icount⟩
  · have wr := Bool.of_not_eq_false (mt rpc ne)
    cases i
    case lcr | lretr => simp
    all_goals cases wr
  · have wr := Bool.of_not_eq_false (mt dbgier ne)
    cases i
    case popDbgier => rfl
    all_goals cases wr
  · have wr := Bool.of_not_eq_false (mt ifr ne)
    cases i
    case orIfr | andIfr | intr => simp
    all_goals cases wr
  · have wr := Bool.of_not_eq_false (mt ier ne)
    cases i
    case iret | movIerLoc16 | orIer | andIer | intr => simp
    all_goals cases wr
  · have wr := Bool.of_not_eq_false (mt dp ne)
    cases i
    case iret => rfl
    all_goals cases wr
  · have wr := Bool.of_not_eq_false (mt acks ne)
    cases i
    case iack c => cases h; exact ⟨c, rfl, rfl⟩
    all_goals cases wr

namespace Sys2Proof.Machine

/-! ## ST0 -/

theorem enterInterrupt_st0 {s t : State} {n : BitVec 5} {r : ProgAddr} {l : Option (BitVec 4)}
    (h : enterInterrupt s n r l = .ok t) : t.st0 = s.st0 := by
  obtain ⟨pc, -, e⟩ := enterInterrupt_rest h
  exact (congrArg State.st0 e : _)

theorem st0Effect_of_eq {i : Instr} {f g : St0} (h : g = f) : St0Effect i f g := h ▸ .refl i f

theorem st0_frame (i : Instr) : Frame i fun s t => St0Effect i s.st0 t.st0 where
  trans := St0Effect.trans
  regs h := h.2
  write h := by obtain ⟨-, -, rfl⟩ := (writeData_ok_iff ..).1 h; exact .refl ..
  writeProg h := by obtain ⟨-, rfl⟩ := (writeProg_ok_iff ..).1 h; exact .refl ..
  step s a k := by rw [State.stepOperand_eq]; exact .refl ..
  trap h := st0Effect_of_eq (enterInterrupt_st0 (l := none) h)

theorem own_st0 {i : Instr} {s t : State} (hi : i.isSystem = true) (h : Own i s t) : St0Effect i s.st0 t.st0 := by
  cases i
  case setcMode | clrcMode =>
    cases h
    exact ⟨fun _ => id, nofun, nofun, fun _ => rfl⟩
  case setcXf | clrcXf | setcObjmode | clrcObjmode | setcAmode | clrcAmode | eallow | edis | asp | nasp | rptImm
      | idle | aborti | orIer | andIer | orIfr | andIfr | iack =>
    cases h
    exact .refl ..
  case movIerLoc16 | rptLoc16 | popDbgier | popSt1 => obtain ⟨v, rfl⟩ := h; exact .refl ..
  case loopnz | loopz => obtain ⟨v, b, rfl⟩ := h; exact (setNZ_keeps ..).effect
  case lcr | lretr => obtain ⟨rpc, pc, rfl⟩ := h; exact .refl ..
  case intr => obtain ⟨r, h⟩ := h; exact st0Effect_of_eq (enterInterrupt_st0 h)
  case intrNmi | trap => obtain ⟨n, r, h⟩ := h; exact st0Effect_of_eq (enterInterrupt_st0 (l := none) h)
  case iret => exact ⟨nofun, nofun, nofun, nofun⟩
  all_goals cases hi

theorem exec_st0Effect {i : Instr} {s t : State} (h : exec i s = .next t) : St0Effect i s.st0 t.st0 :=
  exec_keeps (st0_frame i) own_st0 h

theorem Cond.testsV_iff (c : Cond) : c.testsV = true ↔ c = .nov ∨ c = .ov := by
  cases c <;> simp [Cond.testsV]

end Sys2Proof.Machine

open Sys2Proof Sys2Proof.Machine in
/-- Settles O18: what every instruction may do to ST0 (`exec_st0Effect`), read off its rows. -/
theorem st0FieldWriters : Obligations.St0FieldWriters := by
  intro i s t h
  have ⟨v, tc, modes, pm⟩ := exec_st0Effect h
  refine ⟨fun set cleared => ?_, fun ne => ?_, fun ne => ?_, fun ne => ?_⟩
  · have wr : i.clearsV = true := by
      cases hw : i.clearsV with
      | true => rfl
      | false => cases cleared.symm.trans (v hw set)
    cases i
    case satAcc | sat64AccP | popSt0 | iret => simp
    case b c _ | bf c _ | sb c _ | xb c _ | xcall c _ | xretc c | movLoc16AxCond c _ | movbLoc16Cond c _ _
        | movlLoc32AccCond c _ =>
      have tests := (Cond.testsV_iff _).1 wr
      simp [tests]
    all_goals cases wr
  · have wr := Bool.of_not_eq_false (mt tc ne)
    cases i
    case popSt0 | iret | abstcAcc | csb | setcMode | clrcMode | cmpr0 | cmpr1 | cmpr2 | cmpr3 | normXarInc | normXarDec
        | normInd | normIndInc | normIndDec | normInd0Inc | normInd0Dec | tbitImm | tclr | tset | tbitT => simp
    all_goals cases wr
  · have wr : i.writesModes = true := by
      cases hw : i.writesModes with
      | true => rfl
      | false => exact absurd (modes hw) (not_and_or.2 ne)
    cases i
    case popSt0 | iret | setcMode | clrcMode => simp
    all_goals cases wr
  · have wr := Bool.of_not_eq_false (mt pm ne)
    cases i
    case popSt0 | iret | spm => simp
    all_goals cases wr

namespace Sys2Proof.Machine

/-! ## ST1 -/

/-- The bits of ST1 besides ARP (R45). -/
inductive St1Bit where
  | objmode | amode | xf | m0m1map | vmap | page0 | spa | loop | idlestat | eallow | intm | dbgm
deriving DecidableEq

/-- The value of a bit. -/
def St1.bit (f : St1) : St1Bit → Bool
  | .objmode => f.objmode
  | .amode => f.amode
  | .xf => f.xf
  | .m0m1map => f.m0m1map
  | .vmap => f.vmap
  | .page0 => f.page0
  | .spa => f.spa
  | .loop => f.loop
  | .idlestat => f.idlestat
  | .eallow => f.eallow
  | .intm => f.intm
  | .dbgm => f.dbgm

/-- The changes that are no write of the bit: an entry clears LOOP, IDLESTAT and EALLOW and sets INTM and DBGM (R517),
ABORTI sets DBGM and EDIS clears EALLOW. -/
def St1Bit.allows : St1Bit → Bool → Bool → Prop
  | .loop, x, y | .idlestat, x, y | .eallow, x, y => x = false → y = false
  | .intm, x, y | .dbgm, x, y => x = true → y = true
  | _, x, y => y = x

/-- The instructions that write a bit of ST1, in a way of which `allows` says nothing. -/
def writesBit (i : Instr) : St1Bit → Bool
  | .objmode => match i with | .setcObjmode | .clrcObjmode | .popSt1 | .iret => true | _ => false
  | .amode => match i with | .setcAmode | .clrcAmode | .popSt1 | .iret => true | _ => false
  | .xf => match i with | .setcXf | .clrcXf | .popSt1 | .iret => true | _ => false
  | .m0m1map => match i with | .popSt1 | .iret => true | _ => false
  | .vmap | .page0 => match i with | .setcMode _ | .clrcMode _ | .popSt1 | .iret => true | _ => false
  | .spa => match i with | .asp | .nasp | .popSt1 | .iret => true | _ => false
  | .loop => match i with | .loopnz _ _ | .loopz _ _ => true | _ => false
  | .idlestat => match i with | .idle => true | _ => false
  | .eallow => match i with | .eallow | .popSt1 | .iret => true | _ => false
  | .intm | .dbgm => match i with | .clrcMode _ | .popSt1 | .iret => true | _ => false

theorem St1Bit.allows_of_eq {b : St1Bit} {x y : Bool} (h : y = x) : b.allows x y := by
  subst h
  cases b
  case loop | idlestat | eallow | intm | dbgm => exact id
  all_goals exact rfl

theorem St1Bit.allows_trans {b : St1Bit} {x y z : Bool} (h : b.allows x y) (h' : b.allows y z) : b.allows x z := by
  cases b
  case loop | idlestat | eallow | intm | dbgm => exact h' ∘ h
  all_goals exact Eq.trans h' h

/-- What the instruction `i` may do to ST1. -/
def St1Effect (i : Instr) (f g : St1) : Prop := ∀ b, writesBit i b = false → b.allows (f.bit b) (g.bit b)

theorem st1Effect_of_eq {i : Instr} {f g : St1} (h : ∀ b, writesBit i b = false → g.bit b = f.bit b) :
    St1Effect i f g := fun b hb => St1Bit.allows_of_eq (h b hb)

theorem St1.bit_setArp (f : St1) (n : XReg) (b : St1Bit) : St1.bit { f with arp := n } b = f.bit b := by
  cases b <;> rfl

theorem entered_allows (f : St1) (b : St1Bit) : b.allows (f.bit b) (f.entered.bit b) := by
  cases b
  case loop | idlestat | eallow | intm | dbgm => exact fun _ => rfl
  all_goals exact rfl

theorem enterInterrupt_st1 {i : Instr} {s t : State} {n : BitVec 5} {r : ProgAddr} {l : Option (BitVec 4)}
    (h : enterInterrupt s n r l = .ok t) : St1Effect i s.st1 t.st1 := by
  obtain ⟨pc, -, e⟩ := enterInterrupt_rest h
  have st1_eq : ({ t.st1 with arp := .xar0 } : St1) = { s.st1.entered with arp := .xar0 } := (congrArg State.st1 e : _)
  intro b _
  rw [← St1.bit_setArp t.st1 .xar0, st1_eq, St1.bit_setArp]
  exact entered_allows ..

theorem trapEntry_st1 {i : Instr} {s t : State} {n : BitVec 5} {r : ProgAddr} (h : trapEntry s n r = .ok t) :
    St1Effect i s.st1 t.st1 := enterInterrupt_st1 (l := none) h

theorem st1_frame (i : Instr) : Frame i fun s t => St1Effect i s.st1 t.st1 where
  trans h h' := fun b hb => St1Bit.allows_trans (h b hb) (h' b hb)
  regs h := by rw [h.1]; exact st1Effect_of_eq fun b _ => St1.bit_setArp ..
  write h := by obtain ⟨-, -, rfl⟩ := (writeData_ok_iff ..).1 h; exact st1Effect_of_eq fun _ _ => rfl
  writeProg h := by obtain ⟨-, rfl⟩ := (writeProg_ok_iff ..).1 h; exact st1Effect_of_eq fun _ _ => rfl
  step s a k := by rw [State.stepOperand_eq]; exact st1Effect_of_eq fun _ _ => rfl
  trap h := trapEntry_st1 h

theorem setNamed_allows {c x : Bool} (h : x = true) : (if c = true then true else x) = true := by simp [h]

theorem own_st1 {i : Instr} {s t : State} (hi : i.isSystem = true) (h : Own i s t) : St1Effect i s.st1 t.st1 := by
  cases i
  case popSt1 =>
    obtain ⟨w, rfl⟩ := h
    intro b hb
    cases b
    case loop | idlestat => exact id
    all_goals cases hb
  case iret =>
    obtain ⟨pc, ier, dp, w, p, acc, f, sp, rfl⟩ := h
    intro b hb
    cases b
    case loop | idlestat => exact id
    all_goals cases hb
  case setcMode m =>
    cases h
    intro b hb
    cases b
    case vmap | page0 => cases hb
    case intm => exact setNamed_allows
    case dbgm => exact setNamed_allows
    all_goals exact St1Bit.allows_of_eq rfl
  case clrcMode =>
    cases h
    intro b hb
    cases b
    case vmap | page0 | intm | dbgm => cases hb
    all_goals exact St1Bit.allows_of_eq rfl
  case setcXf | clrcXf | setcObjmode | clrcObjmode | setcAmode | clrcAmode | eallow | asp | nasp | idle =>
    cases h
    refine st1Effect_of_eq fun b hb => ?_
    cases b
    all_goals first | rfl | cases hb
  case edis =>
    cases h
    intro b _
    cases b
    case eallow => exact fun _ => rfl
    all_goals exact St1Bit.allows_of_eq rfl
  case aborti =>
    cases h
    intro b _
    cases b
    case dbgm => exact fun _ => rfl
    all_goals exact St1Bit.allows_of_eq rfl
  case rptImm | orIer | andIer | orIfr | andIfr | iack =>
    cases h
    exact st1Effect_of_eq fun _ _ => rfl
  case movIerLoc16 | rptLoc16 | popDbgier => obtain ⟨v, rfl⟩ := h; exact st1Effect_of_eq fun _ _ => rfl
  case loopnz | loopz =>
    obtain ⟨v, again, rfl⟩ := h
    refine st1Effect_of_eq fun b hb => ?_
    cases b
    case loop => cases hb
    all_goals rfl
  case lcr | lretr => obtain ⟨rpc, pc, rfl⟩ := h; exact st1Effect_of_eq fun _ _ => rfl
  case intr => obtain ⟨r, h⟩ := h; exact enterInterrupt_st1 h
  case intrNmi | trap => obtain ⟨n, r, h⟩ := h; exact trapEntry_st1 h
  all_goals cases hi

theorem exec_st1Effect {i : Instr} {s t : State} (h : exec i s = .next t) : St1Effect i s.st1 t.st1 :=
  exec_keeps (st1_frame i) own_st1 h

/-- The instruction writes a bit it changes in a way `allows` excludes. -/
theorem writesBit_of_not_allows {i : Instr} {s t : State} (h : exec i s = .next t) (b : St1Bit)
    (hb : ¬ b.allows (s.st1.bit b) (t.st1.bit b)) : writesBit i b = true := by
  cases hw : writesBit i b with
  | true => rfl
  | false => exact absurd (exec_st1Effect h b hw) hb

end Sys2Proof.Machine

open Sys2Proof Sys2Proof.Machine in
/-- Settles O19: what every instruction may do to ST1 (`exec_st1Effect`), read off its rows. -/
theorem st1FieldWriters : Obligations.St1FieldWriters := by
  intro i s t h
  have writes := writesBit_of_not_allows h
  refine ⟨fun ne => ?_, fun ne => ?_, fun ne => ?_, fun ne => ?_, fun ne => ?_, fun ne => ?_, fun off on => ?_,
    fun off on => ?_, fun off on => ?_, fun on off => ?_, fun on off => ?_⟩
  · have wr := writes .objmode ne
    cases i
    case setcObjmode | clrcObjmode | popSt1 | iret => simp
    all_goals cases wr
  · have wr := writes .amode ne
    cases i
    case setcAmode | clrcAmode | popSt1 | iret => simp
    all_goals cases wr
  · have wr := writes .xf ne
    cases i
    case setcXf | clrcXf | popSt1 | iret => simp
    all_goals cases wr
  · have wr := writes .m0m1map ne
    cases i
    case popSt1 | iret => simp
    all_goals cases wr
  · have wr : writesBit i .vmap = true ∨ writesBit i .page0 = true := ne.imp (writes .vmap) (writes .page0)
    have wr : writesBit i .vmap = true := wr.elim id id
    cases i
    case setcMode | clrcMode | popSt1 | iret => simp
    all_goals cases wr
  · have wr := writes .spa ne
    cases i
    case asp | nasp | popSt1 | iret => simp
    all_goals cases wr
  · have wr := writes .loop fun keeps => Bool.false_ne_true ((keeps off).symm.trans on)
    cases i
    case loopnz | loopz => simp
    all_goals cases wr
  · have wr := writes .idlestat fun keeps => Bool.false_ne_true ((keeps off).symm.trans on)
    cases i
    case idle => rfl
    all_goals cases wr
  · have wr := writes .eallow fun keeps => Bool.false_ne_true ((keeps off).symm.trans on)
    cases i
    case eallow | popSt1 | iret => simp
    all_goals cases wr
  · have wr := writes .intm fun keeps => Bool.false_ne_true (off.symm.trans (keeps on))
    cases i
    case clrcMode | popSt1 | iret => simp
    all_goals cases wr
  · have wr := writes .dbgm fun keeps => Bool.false_ne_true (off.symm.trans (keeps on))
    cases i
    case clrcMode | popSt1 | iret => simp
    all_goals cases wr

end

section
-- One proof at a time: elaborated side by side, the proofs of the joined text need more memory than a check has.
set_option Elab.async false
/-! PROOFS. The invariant: kept by every store, entry, instruction and step, and met after reset (R110, R454, R66). -/

namespace Sys2Proof.Machine

/-! ## Stores and entries -/

/-- The invariant looks at memory, the marks, the count of instructions, the repeat and DBGSTAT alone. -/
theorem State.Inv.congr {s t : State} (h : s.Inv)
    (same : t.mem = s.mem ∧ t.stores = s.stores ∧ t.reads = s.reads ∧ t.icount = s.icount ∧
      t.repeating = s.repeating ∧ t.rptAddr = s.rptAddr ∧ t.dbgstat = s.dbgstat) : t.Inv := by
  obtain ⟨mem, stores, reads, icount, repeating, rptAddr, dbgstat⟩ := same
  refine ⟨mem ▸ h.memory, stores ▸ h.reach, stores ▸ h.distinct, ?_, ?_, ?_, dbgstat ▸ h.debug⟩
  · rw [stores, icount]; exact h.past
  · rw [reads, icount]; exact h.readsPast
  · rw [repeating, rptAddr]; exact h.address

/-- A store keeps the invariant: its mark is of this instruction, and takes the place of an older one of the word. -/
theorem State.Inv.marked {s : State} (h : s.Inv) {a : Nat} (ha : a < 4294967296) (v : Word) (p : Bool) :
    { s with mem := s.mem.setWord a v, stores := s.mark a p }.Inv := by
  have marks : (∀ k ∈ s.mark a p, k.word < 4194304) ∧ ((s.mark a p).map AccessMark.word).Nodup ∧
      ∀ k ∈ s.mark a p, k.stamp ≤ s.icount := by
    unfold State.mark
    split
    · refine ⟨List.forall_mem_cons.2 ⟨‹_›, fun k hk => h.reach k (List.mem_filter.1 hk).1⟩, List.nodup_cons.2 ⟨?_, ?_⟩,
        List.forall_mem_cons.2 ⟨Nat.le_refl _, fun k hk => h.past k (List.mem_filter.1 hk).1⟩⟩
      · simp
      · exact h.distinct.sublist (List.filter_sublist.map _)
    · exact ⟨h.reach, h.distinct, h.past⟩
  obtain ⟨reach, distinct, past⟩ := marks
  exact ⟨Memory.wf_setWord _ _ _ h.memory ha, reach, distinct, past, h.readsPast, h.address, h.debug⟩

theorem State.Inv.writeData {s t : State} {a : DataAddr} {v : Word} (h : s.Inv) (hw : writeData s a v = .ok t) :
    t.Inv := by
  obtain ⟨-, -, rfl⟩ := (writeData_ok_iff ..).1 hw
  exact h.marked a.isLt v false

theorem State.Inv.writeProg {s t : State} {a : ProgAddr} {v : Word} (h : s.Inv) (hw : writeProg s a v = .ok t) :
    t.Inv := by
  obtain ⟨-, rfl⟩ := (writeProg_ok_iff ..).1 hw
  exact h.marked (Nat.lt_trans (State.progWord_lt s a) (by decide)) v true

theorem State.Inv.push32 {s t : State} {v : Long} (h : s.Inv) (hp : push32 s v = .ok t) : t.Inv := by
  obtain ⟨u, hw, rfl⟩ := (push32_ok_iff ..).1 hp
  obtain ⟨w, h1, h2⟩ := (writeData32_ok_iff ..).1 hw
  exact ((h.writeData h1).writeData h2).congr ⟨rfl, rfl, rfl, rfl, rfl, rfl, rfl⟩

theorem State.Inv.contextSave {s t : State} {r : ProgAddr} (h : s.Inv) (hs : contextSave s r = .ok t) : t.Inv := by
  simp only [Machine.contextSave, Res.bind_eq_ok] at hs
  obtain ⟨s1, h1, s2, h2, s3, h3, s4, h4, s5, h5, s6, h6, h7⟩ := hs
  exact ((((((h.push32 h1).push32 h2).push32 h3).push32 h4).push32 h5).push32 h6).push32 h7

/-- A flush drops the marks. -/
theorem State.Inv.flush {s : State} (h : s.Inv) : s.flush.Inv :=
  ⟨h.memory, nofun, List.nodup_nil, nofun, nofun, h.address, h.debug⟩

/-- The end of a repeat drops the temporary address. -/
theorem State.Inv.ended {s : State} (h : s.Inv) : { s with repeating := false, rptAddr := none }.Inv :=
  ⟨h.memory, h.reach, h.distinct, h.past, h.readsPast, fun _ => rfl, h.debug⟩

theorem State.Inv.enterInterrupt {s t : State} {n : BitVec 5} {r : ProgAddr} {l : Option (BitVec 4)} (h : s.Inv)
    (he : enterInterrupt s n r l = .ok t) : t.Inv := by
  simp only [Machine.enterInterrupt, Res.bind_eq_ok, Res.pure_eq, Except.ok.injEq] at he
  obtain ⟨pc, -, u, hs, rfl⟩ := he
  have saved : u.Inv := by
    refine State.Inv.contextSave ?_ hs
    exact h.flush.congr ⟨rfl, rfl, rfl, rfl, rfl, rfl, rfl⟩
  exact saved.ended.congr ⟨rfl, rfl, rfl, rfl, rfl, rfl, rfl⟩

theorem State.Inv.trapEntry {s t : State} {n : BitVec 5} {r : ProgAddr} (h : s.Inv)
    (he : trapEntry s n r = .ok t) : t.Inv := State.Inv.enterInterrupt (l := none) h he

/-! ## Instructions -/

theorem inv_frame (i : Instr) : Frame i fun s t => s.Inv → t.Inv where
  trans h h' := h' ∘ h
  regs h hs := by rw [h.1]; exact hs.congr ⟨rfl, rfl, rfl, rfl, rfl, rfl, rfl⟩
  write hw hs := hs.writeData hw
  writeProg hw hs := hs.writeProg hw
  step s a k hs := by
    rw [State.stepOperand_eq]
    refine ⟨hs.memory, hs.reach, hs.distinct, hs.past, hs.readsPast, fun none_repeated => ?_, hs.debug⟩
    have idle : s.repeating = false := none_repeated
    simp [idle, hs.address idle]
  trap he hs := hs.trapEntry he

theorem own_inv {i : Instr} {s t : State} (hi : i.isSystem = true) (h : Own i s t) (hs : s.Inv) : t.Inv := by
  cases i
  case setcMode | clrcMode | setcXf | clrcXf | setcAmode | clrcAmode | eallow | edis | asp | nasp | idle | aborti
      | orIer | andIer | orIfr | andIfr | iack =>
    cases h
    exact hs.congr ⟨rfl, rfl, rfl, rfl, rfl, rfl, rfl⟩
  case setcObjmode | clrcObjmode =>
    cases h
    exact hs.flush.congr ⟨rfl, rfl, rfl, rfl, rfl, rfl, rfl⟩
  case rptImm =>
    cases h
    exact ⟨hs.memory, hs.reach, hs.distinct, hs.past, hs.readsPast, nofun, hs.debug⟩
  case rptLoc16 =>
    obtain ⟨v, rfl⟩ := h
    exact ⟨hs.memory, hs.reach, hs.distinct, hs.past, hs.readsPast, nofun, hs.debug⟩
  case movIerLoc16 | popDbgier | popSt1 =>
    obtain ⟨v, rfl⟩ := h
    exact hs.congr ⟨rfl, rfl, rfl, rfl, rfl, rfl, rfl⟩
  case loopnz | loopz | lcr | lretr =>
    obtain ⟨_, _, rfl⟩ := h
    exact hs.congr ⟨rfl, rfl, rfl, rfl, rfl, rfl, rfl⟩
  case intr => obtain ⟨r, h⟩ := h; exact hs.enterInterrupt h
  case intrNmi | trap => obtain ⟨n, r, h⟩ := h; exact hs.trapEntry h
  case iret =>
    obtain ⟨pc, ier, dp, w, p, acc, f, sp, rfl⟩ := h
    exact hs.flush.congr ⟨rfl, rfl, rfl, rfl, rfl, rfl, rfl⟩
  all_goals cases hi

theorem State.Inv.exec {i : Instr} {s t : State} (hs : s.Inv) (h : exec i s = .next t) : t.Inv :=
  exec_keeps (inv_frame i) own_inv h hs

/-! ## Steps -/

/-- The marks of an instruction that begins are its own, and those of the one before it. -/
theorem State.Inv.begun {s : State} (hs : s.Inv) (ks : List AccessMark) (h : ∀ k ∈ ks, k.stamp ≤ s.icount + 1) :
    (s.beginInstr ks).Inv :=
  ⟨hs.memory, hs.reach, hs.distinct, fun k hk => Nat.le_succ_of_le (hs.past k hk), h, hs.address, hs.debug⟩

theorem State.Inv.runDecoded {i : Instr} {s t : State} (hs : s.Inv) (h : runDecoded i s = .next t) : t.Inv := by
  unfold Machine.runDecoded at h
  split at h
  · split at h
    · split at h
      · rename_i u hu
        have executed := hs.exec hu
        cases h
        unfold endRepetition
        split
        · exact executed
        · split
          · exact executed.ended
          · exact executed.congr ⟨rfl, rfl, rfl, rfl, rfl, rfl, rfl⟩
      · cases h
      · cases h
    · have dropped : s.dropRepeat.Inv := hs.ended.congr ⟨rfl, rfl, rfl, rfl, rfl, rfl, rfl⟩
      exact dropped.exec h
  · exact hs.exec h

theorem State.Inv.runInstr {s t : State} (hs : s.Inv) (h : runInstr s = .next t) : t.Inv := by
  unfold Machine.runInstr at h
  split at h
  · rename_i i _
    refine (hs.begun (s.readsWith i) fun k hk => ?_).runDecoded h
    rcases State.mem_readsWith.1 hk with ⟨hk, -⟩ | ⟨-, hk⟩
    · exact Nat.le_of_eq hk
    · exact hk ▸ Nat.le_succ _
  · exact (hs.begun [] nofun).trapEntry (Res.toOutcome_next.1 h)
  · cases Res.toOutcome_next.1 h

/-- Memory in its canonical form and nothing marked. -/
theorem State.Inv.powerUp {m : Memory} (hm : m.wf = true) : (State.powerUp m).Inv :=
  ⟨hm, nofun, List.nodup_nil, nofun, nofun, fun _ => rfl, rfl⟩

theorem State.Inv.resetSequence {s t : State} (hs : s.Inv) (h : resetSequence s = .ok t) : t.Inv := by
  simp only [Machine.resetSequence, Res.bind_eq_ok, Res.pure_eq, Except.ok.injEq] at h
  obtain ⟨pc, -, rfl⟩ := h
  exact ⟨hs.memory, nofun, List.nodup_nil, nofun, nofun, fun _ => rfl, rfl⟩

end Sys2Proof.Machine

open Sys2Proof Sys2Proof.Machine in
/-- Settles O16: every event of the boundary keeps the invariant. -/
theorem stepKeepsInv : Obligations.StepKeepsInv := by
  intro s t hs h
  unfold step runEvent at h
  split at h
  · exact hs.resetSequence (Res.toOutcome_next.1 h)
  · cases h
  · have requested : { s with nmiPending := false }.Inv := hs.congr ⟨rfl, rfl, rfl, rfl, rfl, rfl, rfl⟩
    exact requested.trapEntry (Res.toOutcome_next.1 h)
  · exact hs.enterInterrupt (Res.toOutcome_next.1 h)
  · cases h; exact hs
  · exact hs.runInstr h

open Sys2Proof Sys2Proof.Machine in
/-- Settles O10. -/
theorem resetSatisfiesInv : Obligations.ResetSatisfiesInv := ⟨State.Inv.powerUp Memory.wf_nil, fun _ => State.Inv.powerUp⟩

end

section
-- One proof at a time: elaborated side by side, the proofs of the joined text need more memory than a check has.
set_option Elab.async false
/-! PROOFS. The boundary of an instruction and the step: what is served, what is fetched, and how RPT repeats
(R27, R454, R505, R582). -/

namespace Sys2Proof

/-- An instruction decoded from two words is decoded from the first alone, or takes both. -/
theorem decode_pair_cases {w v : BitVec 16} {i : Instr} {rest : List (BitVec 16)} (h : decode [w, v] = .ok (i, rest)) :
    (i.words = 1 ∧ ∃ rest, decode [w] = .ok (i, rest)) ∨ (i.words = 2 ∧ decode [w] = .error (.secondWordMissing w)) := by
  have fits := decodeHead_fits w
  unfold decode at h ⊢
  simp only at h ⊢
  split at h
  · cases h
  · rename_i hw
    rw [if_neg hw]
    cases hd : decodeHead w with
    | none => rw [hd] at h; cases h
    | some d =>
      rw [hd] at fits h
      cases d with
      | one j => cases h; exact .inl ⟨fits.2, _, rfl⟩
      | two k =>
        refine .inr ⟨?_, rfl⟩
        cases hv : k v with
        | none => simp [hv] at h
        | some j =>
          simp only [hv] at h
          cases h
          exact (fits v _ hv).2

namespace Machine

/-! ## The fetch -/

/-- A word not stored since the last flush is fetched as memory holds it (R130). -/
theorem fetchWord_fresh {s : State} {a : ProgAddr} (h : ∀ k ∈ s.stores, k.word ≠ s.progWord a) :
    fetchWord s a = .ok (s.mem.word (s.progWord a)) := by
  have fresh : s.stores.any (fun k => k.word == s.progWord a) = false := by
    rw [List.any_eq_false]
    intro k hk
    simpa using h k hk
  simp [fetchWord, fresh]

theorem fetchWord_stale {s : State} {a : ProgAddr} (h : ∃ k ∈ s.stores, k.word = s.progWord a) :
    fetchWord s a = .error (.staleFetch (s.progWord a)) := by
  have stale : s.stores.any (fun k => k.word == s.progWord a) = true := by simpa using h
  simp only [fetchWord, progAccess_ok, Res.ok_bind, stale, if_true]

theorem currentInstr_objmode {s : State} (h : s.st1.objmode = true) : currentInstr s = fetchInstr s := by
  unfold currentInstr; rw [if_pos h]

theorem currentInstr_fetched {s : State} {i : Instr} (h : Fetched s i) : currentInstr s = .ok (some i) := by
  obtain ⟨objmode, m0m1map, ⟨rest, hd⟩, fresh⟩ := h
  have word (a : ProgAddr) : s.progWord a = a.toNat := State.progWord_eq s a m0m1map
  have first : fetchWord s s.pc = .ok (s.mem.word s.pc.toNat) := by
    rw [fetchWord_fresh, word]
    intro k hk
    have := fresh k hk 0 (by rcases decode_pair_cases hd with ⟨hl, -⟩ | ⟨hl, -⟩ <;> omega)
    simpa [word] using this
  rw [currentInstr_objmode objmode]
  unfold fetchInstr
  rw [first, Res.ok_bind]
  rcases decode_pair_cases hd with ⟨-, _, one⟩ | ⟨len, two⟩
  · simp [one]
  · have second : fetchWord s (s.pc + 1) = .ok (s.mem.word (s.pc + 1).toNat) := by
      rw [fetchWord_fresh, word]
      intro k hk
      simpa [word] using fresh k hk 1 (by omega)
    simp only [two, second, Res.ok_bind, hd, Res.pure_eq]

/-! ## The step at a boundary -/

theorem described_of_objmode {s : State} (h : s.st1.objmode = true) (h' : s.st1.m0m1map = true) : s.described :=
  ⟨fun ⟨off, _⟩ => Bool.false_ne_true (off.symm.trans h), fun ⟨_, off⟩ => Bool.false_ne_true (off.symm.trans h')⟩

theorem step_eq_runInstr {s : State} (he : nextEvent s = .run) (hd : s.described) : step s = runInstr s := by
  unfold step runEvent
  rw [he, (State.modeStop_none_iff s).2 hd]

theorem step_eq_runDecoded {s : State} {i : Instr} (he : nextEvent s = .run) (hf : Fetched s i) :
    step s = runDecoded i (s.beginInstr (s.readsWith i)) := by
  rw [step_eq_runInstr he (described_of_objmode hf.1 hf.2.1)]
  unfold runInstr
  rw [currentInstr_fetched hf]

/-- A step the fetch refuses. -/
theorem step_refused {s : State} {r : Refusal} (he : nextEvent s = .run) (hd : s.described)
    (hf : currentInstr s = .error r) : step s = .refused r := by
  rw [step_eq_runInstr he hd]
  unfold runInstr
  rw [hf]
  rfl

/-- In a mode the spec does not describe every step but a reset is refused (R5, R48). -/
theorem step_modeStop {s : State} {r : Refusal} (he : nextEvent s ≠ .reset) (hm : s.modeStop = some r) :
    step s = .refused r := by
  unfold step runEvent
  rw [hm]
  cases h : nextEvent s with
  | reset => exact absurd h he
  | nmi => rfl
  | maskable b => rfl
  | wait => rfl
  | run => rfl

/-! ## The choice of the line -/

/-- With RTOSINT aside, the lines rank as their bits (R503). -/
theorem linePriority_of_ne {b : BitVec 4} (h : b ≠ 15) : linePriority b = b.toNat + 5 := if_neg h

theorem linePriority_top : linePriority 15 = 4 := rfl

/-- The line found is the one of least rank among those set. -/
theorem highestLine_eq_some_iff (w : Word) (b : BitVec 4) :
    highestLine w = some b ↔ w.getLsbD b.toNat = true ∧
      ∀ c : BitVec 4, w.getLsbD c.toNat = true → linePriority b ≤ linePriority c := by
  have rank (c : BitVec 4) : 4 ≤ linePriority c := by unfold linePriority; split <;> omega
  unfold highestLine
  by_cases top : w.getLsbD 15 = true
  · rw [if_pos top, Option.some.injEq]
    constructor
    · rintro rfl; exact ⟨top, fun c _ => rank c⟩
    · rintro ⟨-, least⟩
      by_contra ne
      have := least 15 top
      rw [linePriority_top, linePriority_of_ne (Ne.symm ne)] at this
      omega
  · rw [if_neg top, Option.map_eq_some_iff]
    have set_ne_top {c : BitVec 4} (hc : w.getLsbD c.toNat = true) : c ≠ 15 := by rintro rfl; exact top hc
    have lt_top {c : BitVec 4} (hc : c ≠ 15) : c.toNat < 15 := by
      have : c.toNat ≠ 15 := fun h => hc (BitVec.eq_of_toNat_eq h)
      omega
    constructor
    · rintro ⟨n, found, rfl⟩
      obtain ⟨set, hn, least⟩ := List.find?_range_eq_some.1 found
      have hn := List.mem_range.1 hn
      have toNat : (BitVec.ofNat 4 n).toNat = n := by simp; omega
      refine ⟨by rwa [toNat], fun c hc => ?_⟩
      rw [linePriority_of_ne (set_ne_top hc), linePriority_of_ne (set_ne_top (by rwa [toNat])), toNat]
      by_contra lt
      simpa [hc] using least c.toNat (by omega)
    · rintro ⟨set, least⟩
      have ne := set_ne_top set
      refine ⟨b.toNat, List.find?_range_eq_some.2 ⟨set, List.mem_range.2 (lt_top ne), fun j hj => ?_⟩, by simp⟩
      by_contra hc
      have jj : (BitVec.ofNat 4 j).toNat = j := by simp; have := lt_top ne; omega
      have hj' : w.getLsbD (BitVec.ofNat 4 j).toNat = true := by rw [jj]; simpa using hc
      have := least _ hj'
      rw [linePriority_of_ne ne, linePriority_of_ne (set_ne_top hj'), jj] at this
      omega

theorem highestLine_zero : highestLine 0#16 = none := rfl

end Machine
end Sys2Proof

open Sys2Proof Sys2Proof.Machine

/-- Settles O4. -/
theorem stepRunsDecoded : Obligations.StepRunsDecoded := by
  intro s i he hr hf
  rw [step_eq_runDecoded he hf]
  unfold runDecoded
  rw [if_neg (by simp [State.beginInstr, hr])]
  rfl

/-- Settles O5: by the three ends of a repetition. -/
theorem stepRepeatsUnderRpt : Obligations.StepRepeatsUnderRpt := by
  intro s i he hr hf b
  have run : step s = runDecoded i b := step_eq_runDecoded he hf
  have repeated : b.repeating = true := hr
  constructor
  · intro once
    rw [run, runDecoded, if_pos repeated, if_neg (by simp [repeats, Config.rptNonrepeatable, once])]
    rfl
  · intro again t executed
    have ended : step s = .next (endRepetition b t) := by
      rw [run, runDecoded, if_pos repeated, if_pos (by simp [repeats, Config.rptNonrepeatable, again]), executed]
    rw [ended]
    refine ⟨fun trapped => ?_, fun goes last => ?_, fun goes more => ?_⟩
    · simp [endRepetition, trapped]
    · simp [endRepetition, goes, b, last]
    · rw [endRepetition, goes, if_neg (by simp), if_neg more]

/-- Settles O6: `nextEvent` unfolded, with the choice of the line from `highestLine_eq_some_iff`. -/
theorem boundaryChoosesByPriority : Obligations.BoundaryChoosesByPriority := by
  intro s
  refine ⟨fun reset => by simp [nextEvent, reset], fun reset busy => ?_, fun reset start rpt => ⟨fun nmi => ?_, fun nmi => ?_⟩,
    fun wait described => ?_⟩
  · rcases busy with busy | busy <;> simp [nextEvent, reset, busy]
  · simp [nextEvent, reset, start, rpt, nmi]
  · have choice : nextEvent s = match highestLine s.approved with
        | some b => .maskable b
        | none => if s.st1.idlestat && s.enabledLines == 0 then .wait else .run := by
      simp [nextEvent, reset, start, rpt, nmi] <;> rfl
    constructor
    · intro b
      have served : nextEvent s = .maskable b ↔ highestLine s.approved = some b := by
        rw [choice]
        cases highestLine s.approved with
        | some c => simp
        | none => simp; split <;> simp
      rw [served]
      cases hi : s.st1.intm with
      | true => simp [State.approved, hi, highestLine_zero]
      | false => simp [State.approved, hi, highestLine_eq_some_iff, State.enabledLines]
    · intro none_approved
      have approved : s.approved = 0#16 := by
        rcases none_approved with h | h <;> simp [State.approved, State.enabledLines, h]
      rw [choice, approved, highestLine_zero]
      simp [State.enabledLines]
  · unfold step runEvent
    rw [wait, (State.modeStop_none_iff s).2 described]

/-- Settles O9: the reset vector is fetched from a described address. -/
theorem resetSequenceTaken : Obligations.ResetSequenceTaken := by
  refine ⟨rfl, fun s reset => ?_⟩
  have event : nextEvent s = .reset := by simp [nextEvent, reset]
  unfold step runEvent
  rw [event]
  rfl

/-- With OBJMODE = 0 only C28OBJ runs, and its step is the one of SETC OBJMODE (R586). -/
theorem undescribedFetches_c27x (s : State) (he : nextEvent s = .run) (objmode : s.st1.objmode = false)
    (amode : s.st1.amode = false) (fresh : ∀ k ∈ s.stores, k.word ≠ s.progWord s.pc) :
    (s.mem.word (s.progWord s.pc) ≠ 0x561F#16 → step s = .refused .c27xObjectMode) ∧
    (s.mem.word (s.progWord s.pc) = 0x561F#16 →
      step s = .next { s with st1 := { s.st1 with objmode := true, idlestat := false }, isrStart := false,
                              icount := s.icount + 1, stores := [], reads := [], pc := s.pc + 1,
                              rptc := if s.repeating then 0 else s.rptc, repeating := false,
                              rptAddr := if s.repeating then none else s.rptAddr }) := by
  have described : s.described :=
    ⟨fun ⟨_, on⟩ => Bool.false_ne_true (amode.symm.trans on), fun ⟨on, _⟩ => Bool.false_ne_true (objmode.symm.trans on)⟩
  have current : currentInstr s = if s.mem.word (s.progWord s.pc) = wordC28obj then .ok (some .setcObjmode)
      else .error .c27xObjectMode := by
    unfold currentInstr
    rw [if_neg (by simp [objmode]), fetchWord_fresh fresh]
    rfl
  constructor
  · intro other
    exact step_refused he described (current.trans (if_neg other))
  · intro c28obj
    rw [step_eq_runInstr he described]
    have found : currentInstr s = .ok (some .setcObjmode) := current.trans (if_pos c28obj)
    unfold runInstr
    rw [found]
    cases rpt : s.repeating with
    | false =>
      have plain : (s.beginInstr (s.readsWith .setcObjmode)).repeating ≠ true := by simp [State.beginInstr, rpt]
      simp only [runDecoded, if_neg plain]
      simp [exec, execSetcObjmode, register, State.advance, State.flush, State.beginInstr, rpt]
    | true =>
      have again : (s.beginInstr (s.readsWith .setcObjmode)).repeating = true := rpt
      simp only [runDecoded, if_pos again]
      rfl

/-- Settles O7: the checks of the mode, of the fetch and of the decoder, in their order. -/
theorem undescribedFetchesRefused : Obligations.UndescribedFetchesRefused := by
  intro s
  refine ⟨fun event => ⟨fun on off => ?_, fun off on => ?_⟩, undescribedFetches_c27x s, fun he on map => ?_⟩
  · exact step_modeStop event (by simp [State.modeStop, Config.emulatorAttached, on, off])
  · exact step_modeStop event (by simp [State.modeStop, Config.emulatorAttached, on, off])
  · intro w v
    have described := described_of_objmode on map
    have word (a : ProgAddr) : s.progWord a = a.toNat := State.progWord_eq s a map
    have refused {r : Refusal} (hf : fetchInstr s = .error r) : step s = .refused r :=
      step_refused he described ((currentInstr_objmode on).trans hf)
    refine ⟨fun stale => refused ?_, fun fresh => ?_⟩
    · unfold fetchInstr
      rw [fetchWord_stale (by rwa [word]), word]
      rfl
    · have first : fetchWord s s.pc = .ok w := by rw [fetchWord_fresh (by rwa [word]), word]
      refine ⟨fun unlisted => refused ?_, fun two => ⟨fun stale => refused ?_, fun fresh' unlisted => refused ?_⟩⟩
      · simp only [fetchInstr, first, Res.ok_bind, unlisted]
      · have second := fetchWord_stale (s := s) (a := s.pc + 1) (by rwa [word])
        simp only [fetchInstr, first, Res.ok_bind, two, second, word]
        rfl
      · have second : fetchWord s (s.pc + 1) = .ok v := by rw [fetchWord_fresh (by rwa [word]), word]
        simp only [fetchInstr, first, Res.ok_bind, two, second, unlisted]

end

section
-- One proof at a time: elaborated side by side, the proofs of the joined text need more memory than a check has.
set_option Elab.async false
/-! PROOFS. The status registers as words (R29, R45), and the entry into a service routine and the return from one
(R510 to R538). -/

namespace Sys2Proof.XReg

theorem bits_ofBits (b : BitVec 3) : (XReg.ofBits b).bits = b := by revert b; decide

theorem bits_toNat (n : XReg) : n.bits.toNat = n.num := by cases n <;> rfl

theorem num_lt (n : XReg) : n.num < 8 := by cases n <;> decide

end Sys2Proof.XReg

namespace Sys2Proof.Machine

/-! ## The status registers as words -/

theorem toNat_append_add {w v : Nat} (x : BitVec w) (y : BitVec v) : (x ++ y).toNat = x.toNat * 2 ^ v + y.toNat := by
  rw [BitVec.toNat_append, ← Nat.shiftLeft_add_eq_or_of_lt y.isLt, Nat.shiftLeft_eq]

theorem getLsbD_toNat {w : Nat} (x : BitVec w) (k : Nat) : (x.getLsbD k).toNat = x.toNat / 2 ^ k % 2 :=
  Nat.toNat_testBit ..

theorem St0.toWord_toNat (f : St0) :
    f.toWord.toNat = 1024 * f.ovc.toNat + 128 * f.pm.toNat + 64 * f.v.toNat + 32 * f.n.toNat + 16 * f.z.toNat +
      8 * f.c.toNat + 4 * f.tc.toNat + 2 * f.ovm.toNat + f.sxm.toNat := by
  simp only [St0.toWord, flagBit, toNat_append_add, BitVec.toNat_ofBool]
  omega

theorem St1.toWord_toNat (f : St1) :
    f.toWord.toNat = 8192 * f.arp.num + 4096 * f.xf.toNat + 2048 * f.m0m1map.toNat + 512 * f.objmode.toNat +
      256 * f.amode.toNat + 128 * f.idlestat.toNat + 64 * f.eallow.toNat + 32 * f.loop.toNat + 16 * f.spa.toNat +
      8 * f.vmap.toNat + 4 * f.page0.toNat + 2 * f.dbgm.toNat + f.intm.toNat := by
  simp only [St1.toWord, flagBit, toNat_append_add, BitVec.toNat_ofBool, XReg.bits_toNat, BitVec.toNat_ofNat]
  omega

/-- A word loaded into ST0 reads back, bit by bit. -/
theorem St0.toWord_ofWord (w : Word) : (St0.ofWord w).toWord = w := by
  apply BitVec.eq_of_getLsbD_eq
  intro k hk
  simp only [St0.ofWord, St0.toWord, BitVec.getLsbD_append, BitVec.getLsbD_extractLsb']
  interval_cases k <;> simp [flagBit]

/-- The bits of a word loaded into ST1 read back, besides IDLESTAT, LOOP and the reserved bit (R49, R418). -/
theorem St1.load_toWord_bit (f : St1) (w : Word) {k : Nat} (hk : k < 16) (h10 : k ≠ 10) (h7 : k ≠ 7) (h5 : k ≠ 5) :
    (f.load w).toWord.getLsbD k = w.getLsbD k := by
  simp only [St1.load, St1.toWord, BitVec.getLsbD_append, XReg.bits_ofBits, BitVec.getLsbD_extractLsb']
  interval_cases k
  any_goals contradiction
  all_goals simp [flagBit]

theorem St1.toWord_reserved (f : St1) : f.toWord.getLsbD 10 = false := by
  simp only [St1.toWord, BitVec.getLsbD_append]
  simp

theorem flag_eq {x y : Bool} (h : x.toNat = y.toNat) : x = y := by
  cases x <;> cases y <;> simp_all

/-- ST0 read as a word and loaded again, field by field. -/
theorem St0.ofWord_toWord (f : St0) : St0.ofWord f.toWord = f := by
  have bits := f.toWord_toNat
  have := f.ovc.isLt; have := f.pm.isLt; have := f.v.toNat_le; have := f.n.toNat_le; have := f.z.toNat_le
  have := f.c.toNat_le; have := f.tc.toNat_le; have := f.ovm.toNat_le; have := f.sxm.toNat_le
  obtain ⟨ovc, pm, v, n, z, c, tc, ovm, sxm⟩ := f
  simp only [St0.ofWord, St0.mk.injEq] at *
  refine ⟨BitVec.eq_of_toNat_eq ?_, BitVec.eq_of_toNat_eq ?_, flag_eq ?_, flag_eq ?_, flag_eq ?_, flag_eq ?_,
    flag_eq ?_, flag_eq ?_, flag_eq ?_⟩
  all_goals
    simp only [getLsbD_toNat, BitVec.extractLsb'_toNat, Nat.shiftRight_eq_div_pow, bits]
    omega

/-- ST1 read as a word and loaded again, field by field. -/
theorem St1.load_toWord (f : St1) : f.load f.toWord = f := by
  have bits := f.toWord_toNat
  have := f.arp.num_lt; have := f.xf.toNat_le; have := f.m0m1map.toNat_le; have := f.objmode.toNat_le
  have := f.amode.toNat_le; have := f.idlestat.toNat_le; have := f.eallow.toNat_le; have := f.loop.toNat_le
  have := f.spa.toNat_le; have := f.vmap.toNat_le; have := f.page0.toNat_le; have := f.dbgm.toNat_le
  have := f.intm.toNat_le
  have arp : f.toWord.extractLsb' 13 3 = f.arp.bits := by
    apply BitVec.eq_of_toNat_eq
    simp only [BitVec.extractLsb'_toNat, Nat.shiftRight_eq_div_pow, bits, XReg.bits_toNat]
    omega
  obtain ⟨arp, xf, m0m1map, objmode, amode, idlestat, eallow, loop, spa, vmap, page0, dbgm, intm⟩ := f
  simp only [St1.load, St1.mk.injEq, arp, XReg.ofBits_bits] at *
  refine ⟨trivial, flag_eq ?_, flag_eq ?_, flag_eq ?_, flag_eq ?_, trivial, flag_eq ?_, trivial, flag_eq ?_, flag_eq ?_,
    flag_eq ?_, flag_eq ?_, flag_eq ?_⟩
  all_goals
    simp only [getLsbD_toNat, bits]
    omega

end Sys2Proof.Machine

open Sys2Proof Sys2Proof.Machine

/-- Settles O57: each register as a sum of its bits, and from it the round trips. -/
theorem statusWordsRoundTrip : Obligations.StatusWordsRoundTrip :=
  ⟨St0.toWord_ofWord, St0.ofWord_toWord, fun f w _ hk h10 h7 h5 => f.load_toWord_bit w hk h10 h7 h5,
    fun f w => ⟨(f.load w).toWord_reserved, rfl, rfl⟩, St1.load_toWord, St0.toWord_toNat, St1.toWord_toNat⟩

/-! ## Entries -/

/-- Settles O11: the entry of the event, which answers wherever the context may be saved. -/
theorem hardwareInterruptEntry : Obligations.HardwareInterruptEntry := by
  intro s save described
  have mode := (State.modeStop_none_iff s).2 described
  refine ⟨fun b event => ?_, fun event => ?_⟩
  · obtain ⟨t, entry, entered, -⟩ := enterInterrupt_ok s (lineVector b) s.pc (some b) save
    refine ⟨t, ?_, entered⟩
    unfold step runEvent
    rw [event, mode]
    exact congrArg Res.toOutcome entry
  · obtain ⟨t, entry, entered, -⟩ := enterInterrupt_ok { s with nmiPending := false } 18 s.pc none save
    refine ⟨t, ?_, entered⟩
    unfold step runEvent
    rw [event, mode]
    exact congrArg Res.toOutcome entry

/-- A trap answers wherever the context may be saved. -/
theorem trapEntry_ok (s : State) (n : BitVec 5) (r : ProgAddr) (save : s.canSave) :
    ∃ t, (trapEntry s n r).toOutcome = .next t ∧ Entered s t n r 0 := by
  obtain ⟨t, entry, entered, -⟩ := enterInterrupt_ok s n r none save
  exact ⟨t, congrArg Res.toOutcome entry, entered⟩

/-- INTR of a field that is not 0 names vector and bit by the field (R458, R503). -/
theorem intr_line (c : BitVec 4) (h : c ≠ 0) :
    lineVector (c - 1) = c.zeroExtend 5 ∧ lineMask (c - 1) = 1#16 <<< (c.toNat - 1) := by
  revert h
  induction c using forall_field with
  | _ k => fin_cases k <;> simp <;> decide

/-- Settles O12. -/
theorem softwareInterruptEntry : Obligations.SoftwareInterruptEntry := by
  intro s save
  refine ⟨fun c => trapEntry_ok s c _ save, trapEntry_ok s 18 _ save, ?_, fun c h => ?_⟩
  · obtain ⟨t, entry, entered, -⟩ := enterInterrupt_ok s (lineVector 15) (s.pc + 1) (some 15) save
    exact ⟨t, congrArg Res.toOutcome entry, entered⟩
  · obtain ⟨t, entry, entered, -⟩ := enterInterrupt_ok s (lineVector (c - 1)) (s.pc + 1) (some (c - 1)) save
    obtain ⟨vector, mask⟩ := intr_line c h
    refine ⟨t, congrArg Res.toOutcome entry, ?_⟩
    rw [← vector, ← mask]
    exact entered

/-! ## The illegal-instruction trap -/

/-- The field `0xAD` is `@SP` in every mode. -/
theorem locMode_sp (s : State) : s.locMode 0xAD = .reg .sp := by
  unfold State.locMode
  cases s.st1.amode <;> cases s.st1.page0 <;> rfl

/-- An instruction whose `loc` field traps does nothing else, whatever it is. -/
theorem exec_locTraps {i : Instr} {w : Width} {loc : Loc} {s : State} (hl : locOperand i = some (w, loc))
    (ht : locTraps w loc s = true) : exec i s = (illegalTrap s).toOutcome := by
  cases i
  all_goals first | cases hl; done | skip
  all_goals
    cases hl
    simp only [exec]
    exact withLoc_trap ht

/-- The step at a word that is one of the two illegal instructions (R537). -/
theorem step_illegalWord {s : State} (event : nextEvent s = .run) (objmode : s.st1.objmode = true)
    (map : s.st1.m0m1map = true) (fresh : ∀ k ∈ s.stores, k.word ≠ s.pc.toNat)
    (illegal : s.mem.word s.pc.toNat = 0x0000#16 ∨ s.mem.word s.pc.toNat = 0xFFFF#16) :
    step s = (illegalTrap (s.beginInstr [])).toOutcome := by
  have word := State.progWord_eq s s.pc map
  have first : fetchWord s s.pc = .ok (s.mem.word s.pc.toNat) := by rw [fetchWord_fresh (by rwa [word]), word]
  have current : currentInstr s = .ok none := by
    rw [currentInstr_objmode objmode]
    unfold fetchInstr
    rw [first, Res.ok_bind]
    rcases illegal with h | h <;> rw [h] <;> rfl
  rw [step_eq_runInstr event (described_of_objmode objmode map)]
  unfold runInstr
  rw [current]

/-- Settles O13. -/
theorem illegalInstructionTraps : Obligations.IllegalInstructionTraps := by
  refine ⟨fun s event objmode map save fresh illegal => ?_, fun i w loc s hl save traps => ?_⟩
  · rw [step_illegalWord event objmode map fresh illegal]
    obtain ⟨t, entry, entered⟩ := trapEntry_ok (s.beginInstr []) 19 (s.pc + 1) save
    exact ⟨t, entry, entered⟩
  · have ht : locTraps w loc s = true := by
      rcases traps with ⟨page0, amode⟩ | ⟨rfl, rfl⟩
      · simp [locTraps, page0, amode]
      · rw [locTraps, locMode_sp]; exact Bool.or_true _
    rw [exec_locTraps hl ht]
    exact trapEntry_ok s 19 (s.pc + 1) save

/-! ## Return -/

/-- The return address in the two words of the last pair (R520, D21). -/
theorem extract_longOf (a b : Word) : (longOf a b).extractLsb' 0 22 = a.extractLsb' 0 6 ++ b := by
  apply BitVec.eq_of_toNat_eq
  have := a.isLt
  have := b.isLt
  rw [toNat_append_add, BitVec.extractLsb'_toNat, longOf_toNat, BitVec.extractLsb'_toNat]
  simp only [Nat.shiftRight_zero]
  omega

/-- Settles O15: the seven pops in turn. -/
theorem iretLoadsStackedContext : Obligations.IretLoadsStackedContext := by
  intro s w h
  have pop (j : Nat) (hj : j < 7) : pop32 { s with sp := s.sp - 14 + BitVec.ofNat 16 (2 * (j + 1)) } =
      .ok (longOf (w (2 * j + 1)) (w (2 * j)), { s with sp := s.sp - 14 + BitVec.ofNat 16 (2 * j) }) := by
    obtain ⟨open0, order0, word0⟩ := h (2 * j) (by omega)
    obtain ⟨open1, order1, word1⟩ := h (2 * j + 1) (by omega)
    rw [word0, word1]
    exact pop32_frame s (s.sp - 14) j open0 open1 order0 order1
  have pop6 : pop32 s = .ok (longOf (w 13) (w 12), { s with sp := s.sp - 14 + BitVec.ofNat 16 (2 * 6) }) := by
    have top : s.sp - 14 + BitVec.ofNat 16 (2 * (6 + 1)) = s.sp := BitVec.sub_add_cancel ..
    have := pop 6 (by omega)
    rwa [top] at this
  have bottom : s.sp - 14 + BitVec.ofNat 16 (2 * 0) - 1 = s.sp - 15 := by
    bv_omega
  show (iretRestore s).toOutcome = _
  unfold iretRestore
  rw [pop6, Res.ok_bind]
  simp only [pop 5 (by omega), pop 4 (by omega), pop 3 (by omega), pop 2 (by omega), pop 1 (by omega), pop 0 (by omega),
    Res.ok_bind, lowWord_longOf, highWord_longOf, extract_longOf]
  rw [← bottom]
  rfl

/-- A read through data space is in order where every mark of a store is of data space (R596). -/
theorem unordered_data {s : State} (h : ∀ k ∈ s.stores, k.prog = false) (w : Nat) : s.unordered w false = false :=
  State.clash_same _ _ _ _ h

theorem longOf_t (s : State) : longOf s.t (lowWord s.xt) = s.xt := longOf_halves s.xt

theorem XarFile.set_halves (x : XarFile) :
    (x.set .xar1 (longOf (highWord (x.get .xar1)) (lowWord (x.get .xar1)))).set .xar0
      (longOf (highWord (x.get .xar0)) (lowWord (x.get .xar0))) = x := by
  rw [longOf_halves, longOf_halves]; rfl

/-- The return address of a frame, put together again. -/
theorem ret_halves (r : ProgAddr) : ((r.extractLsb' 16 6).zeroExtend 16 : Word).extractLsb' 0 6 ++ r.extractLsb' 0 16 = r := by
  apply BitVec.eq_of_toNat_eq
  have := r.isLt
  rw [toNat_append_add]
  simp only [BitVec.extractLsb'_toNat, BitVec.toNat_setWidth, Nat.shiftRight_eq_div_pow]
  omega

/-- Settles O14: IRET loads the words the entry stored, which are the context (`iretLoadsStackedContext`). -/
theorem iretUndoesTrap : Obligations.IretUndoesTrap := by
  intro s t c save trap
  obtain ⟨t', entry, ⟨he, words, -⟩, marks⟩ := enterInterrupt_ok s c (s.pc + 1) none save
  have same : t' = t := by
    have := (congrArg Res.toOutcome entry).symm.trans trap
    cases this; rfl
  subst same
  have sp : t'.sp - 14 = s.sp + 1 := by rw [he]; show s.sp + 15 - 14 = _; bv_omega
  have frame (k : Nat) : (((t'.sp - 14) &&& 0xFFFE#16) + BitVec.ofNat 16 k).toNat = s.frameWord k := by rw [sp]; rfl
  rw [iretLoadsStackedContext t' (fun k => (s.contextWords (s.pc + 1)).getD k 0) fun k hk => by
    rw [frame]; exact ⟨save k hk, unordered_data marks _, (words k hk).symm⟩]
  have sp' : s.sp + 15 - 15 = s.sp := by bv_omega
  have kept : s.ifr &&& ~~~(0 : Word) = s.ifr := and_not_zero _
  generalize t'.mem = m at he
  generalize t'.stores = st at he
  subst he
  have loaded : St1.load s.st1.entered s.st1.toWord = { s.st1.load s.st1.toWord with loop := false, idlestat := false } :=
    rfl
  change Host.Outcome.next { s with
    st0 := St0.ofWord s.st0.toWord, xt := longOf s.t (lowWord s.xt), acc := longOf (highWord s.acc) (lowWord s.acc),
    p := longOf (highWord s.p) (lowWord s.p),
    xar := (s.xar.set .xar1 (longOf (highWord (s.xar.get .xar1)) (lowWord (s.xar.get .xar1)))).set .xar0
      (longOf (highWord (s.xar.get .xar0)) (lowWord (s.xar.get .xar0))),
    st1 := { St1.load s.st1.entered s.st1.toWord with idlestat := false, loop := false },
    pc := (((s.pc + 1).extractLsb' 16 6).zeroExtend 16 : Word).extractLsb' 0 6 ++ (s.pc + 1).extractLsb' 0 16,
    sp := s.sp + 15 - 15, ifr := s.ifr &&& ~~~(0 : Word), stores := [], reads := [], mem := m, isrStart := true,
    repeating := false, rptAddr := none } = _
  rw [St0.ofWord_toWord, longOf_t, longOf_halves, longOf_halves, XarFile.set_halves, loaded, St1.load_toWord, ret_halves,
    sp', kept]

end

section
-- One proof at a time: elaborated side by side, the proofs of the joined text need more memory than a check has.
set_option Elab.async false
/-! PROOFS. The addressing modes and the places they select, the two spaces, and the operand forms the spec gives no
meaning (20_memory.md). -/

namespace Sys2Proof.Machine

/-! ## The mode a field names -/

theorem decodeLoc_direct6 (p : Bool) (off : BitVec 6) : decodeLoc false p (0b00#2 ++ off) = .mem (.direct6 off) := by
  induction off using forall_field with | _ k => fin_cases k <;> rfl

theorem decodeLoc_stack (p : Bool) (off : BitVec 6) :
    decodeLoc false p (0b01#2 ++ off) = if p then .mem (.page0 off) else .mem (.spRel off) := by
  cases p <;> (induction off using forall_field with | _ k => fin_cases k <;> rfl)

theorem decodeLoc_direct7 (p : Bool) (off : BitVec 7) : decodeLoc true p (0b0#1 ++ off) = .mem (.direct7 off) := by
  induction off using forall_field with | _ k => fin_cases k <;> rfl

theorem decodeLoc_idx3 (p : Bool) (off : BitVec 3) (n : XReg) :
    decodeLoc false p (0b11#2 ++ off ++ n.bits) = .mem (.idx3 n off) := by
  cases n <;> (induction off using forall_field with | _ k => fin_cases k <;> rfl)

/-- A field that names the same mode whatever AMODE and PAGE0 are. -/
theorem locMode_of_fixed {loc : Loc} {m : AddrMode} (h : ∀ a p, decodeLoc a p loc = m) (s : State) :
    s.locMode loc = m := h _ _

theorem locMode_of_amode {loc : Loc} {m : AddrMode} {s : State} {a : Bool} (amode : s.st1.amode = a)
    (h : decodeLoc a s.st1.page0 loc = m) : s.locMode loc = m := by
  unfold State.locMode; rw [amode]; exact h

theorem resolve_mem {w : Width} {loc : Loc} {s : State} {m : MemMode} (h : s.locMode loc = .mem m) :
    resolve w loc s = .ok (.mem (modeAddr w m s).1, (modeAddr w m s).2) := by
  unfold resolve; rw [h]

/-- A register is selected in 16 bits always, in 32 bits where it is a long one. -/
theorem resolve_reg {w : Width} {loc : Loc} {s : State} {r : LocReg} (h : s.locMode loc = .reg r)
    (hr : w = .word ∨ isLongReg r = true) : resolve w loc s = .ok (.reg r, s) := by
  unfold resolve
  rw [h]
  rcases hr with rfl | hr
  · rfl
  · simp [hr]

/-! ## SP in the modes -/

theorem locMode_spInc {loc : Loc} {s : State} (h : s.locMode loc = .mem .spInc ∨ s.locMode loc = .mem .spDec) :
    loc = 0xBD ∨ loc = 0xBE := by
  have mem10 (f : Loc) (hf : decodeLocMem10 f = .spInc ∨ decodeLocMem10 f = .spDec) : f = 0xBD ∨ f = 0xBE := by
    unfold decodeLocMem10 at hf
    split at hf
    case h_6 =>
      split at hf
      case h_8 => exact .inl rfl
      case h_9 => exact .inr rfl
      all_goals rcases hf with hf | hf <;> cases hf
    all_goals rcases hf with hf | hf <;> cases hf
  have mode (m : MemMode) (hm : m = .spInc ∨ m = .spDec) (h : s.locMode loc = .mem m) : loc = 0xBD ∨ loc = 0xBE := by
    unfold State.locMode decodeLoc at h
    split at h
    · split at h
      · cases h; rcases hm with hm | hm <;> cases hm
      · split at h
        · cases h; rcases hm with hm | hm <;> cases hm
        · split at h <;> (cases h; rcases hm with hm | hm <;> cases hm)
    · split at h
      · split at h
        · cases h
        · split at h
          · cases h
          · cases h; exact mem10 loc hm
      · split at h
        · cases h
        · cases h; rcases hm with hm | hm <;> cases hm
  rcases h with h | h
  · exact mode _ (.inl rfl) h
  · exact mode _ (.inr rfl) h

/-- SP moves in the push and pop modes alone, and they move no auxiliary register. -/
theorem modeAddr_sp (w : Width) (m : MemMode) (s : State) (h : (modeAddr w m s).2.sp ≠ s.sp) :
    (m = .spInc ∨ m = .spDec) ∧ (modeAddr w m s).2.xar = s.xar := by
  cases m
  case spInc => exact ⟨.inl rfl, rfl⟩
  case spDec => exact ⟨.inr rfl, rfl⟩
  all_goals exact absurd rfl h

end Sys2Proof.Machine

open Sys2Proof Sys2Proof.Machine

/-- Settles O24: the frame of the mode, and the fields that move SP. -/
theorem operandFrame : Obligations.OperandFrame := by
  rintro w s t loc pl ⟨-, h⟩
  refine ⟨resolve_frame h, ?_, fun moved => ?_⟩
  · rcases resolve_cases h with ⟨m, -, -, rfl⟩ | ⟨r, -, -, rfl⟩
    · exact (modeAddr_frame w m s).2
    · exact ⟨.xar0, fun _ _ => rfl⟩
  · rcases resolve_cases h with ⟨m, hm, -, rfl⟩ | ⟨r, -, -, rfl⟩
    · obtain ⟨sp, xar⟩ := modeAddr_sp w m s moved
      refine ⟨locMode_spInc (s := s) ?_, xar⟩
      rw [hm]
      exact sp.imp (congrArg _) (congrArg _)
    · exact absurd rfl moved

/-- Settles O20: the mode of each field, then the mode's own address and update. -/
theorem directStackCurrentModes : Obligations.DirectStackCurrentModes := by
  intro w s
  have fixed {loc : Loc} {m : MemMode} (h : ∀ a p, decodeLoc a p loc = .mem m) (w : Width) :=
    resolve_mem (w := w) (locMode_of_fixed h s)
  refine ⟨fun amode off => ⟨?_, fun page0 => ?_, fun page0 => ?_⟩, fun amode off => ?_, ?_, ?_, ?_, ?_, ?_⟩
  · exact resolve_mem (locMode_of_amode amode (decodeLoc_direct6 _ off))
  · exact resolve_mem (locMode_of_amode amode ((decodeLoc_stack _ off).trans (if_neg (by simp [page0]))))
  · exact resolve_mem (locMode_of_amode amode ((decodeLoc_stack _ off).trans (if_pos page0)))
  · exact resolve_mem (locMode_of_amode amode (decodeLoc_direct7 _ off))
  · exact fixed (m := .spInc) (by decide) .word
  · exact fixed (m := .spInc) (by decide) .long
  · exact fixed (m := .spDec) (by decide) .word
  · exact fixed (m := .spDec) (by decide) .long
  · intro c rev ver
    refine ⟨?_, ?_, ?_, ?_, ?_, ?_, ?_, fun n => ?_, ?_, ?_⟩
    · exact fixed (m := .cur) (by decide) w
    · exact fixed (m := .curInc) (by decide) .word
    · exact fixed (m := .curInc) (by decide) .long
    · exact fixed (m := .curDec) (by decide) .word
    · exact fixed (m := .curDec) (by decide) .long
    · exact fixed (m := .cur0Inc) (by decide) w
    · exact fixed (m := .cur0Dec) (by decide) w
    · exact fixed (m := .setArp n) (by cases n <;> decide) w
    · exact fixed (m := .brInc) (by decide) w
    · exact fixed (m := .brDec) (by decide) w

/-- Settles O21: likewise; the circular mode at its two cases. -/
theorem namedRegisterModes : Obligations.NamedRegisterModes := by
  intro s n
  have fixed {loc : Loc} {m : MemMode} (h : ∀ a p, decodeLoc a p loc = .mem m) (w : Width) :=
    resolve_mem (w := w) (locMode_of_fixed h s)
  refine ⟨?_, ?_, ?_, ?_, fun w => ?_, fun w => ?_, fun amode => ?_⟩
  · exact fixed (m := .postInc n) (by cases n <;> decide) .word
  · exact fixed (m := .postInc n) (by cases n <;> decide) .long
  · exact fixed (m := .preDec n) (by cases n <;> decide) .word
  · exact fixed (m := .preDec n) (by cases n <;> decide) .long
  · exact fixed (m := .idxAr0 n) (by cases n <;> decide) w
  · exact fixed (m := .idxAr1 n) (by cases n <;> decide) w
  · have circ (w : Width) : resolve w 0xBF s = .ok (.mem (s.xarOf .xar6), s.circStep w.step) :=
      resolve_mem (m := .circ) (locMode_of_amode amode (by cases s.st1.page0 <;> rfl))
    refine ⟨fun w off => ?_, fun w wraps => ?_, fun moves => ⟨?_, ?_⟩⟩
    · exact resolve_mem (locMode_of_amode amode (decodeLoc_idx3 _ off n))
    · rw [circ, State.circStep, if_pos wraps]; rfl
    · rw [circ, State.circStep, if_neg moves]; rfl
    · rw [circ, State.circStep, if_neg moves]; rfl

/-- Settles O22: the fields of the registers, and a register as the reads and writes of a place treat it. -/
theorem registerModes : Obligations.RegisterModes := by
  intro s v x
  have fixed {loc : Loc} {r : LocReg} (h : ∀ a p, decodeLoc a p loc = .reg r) {w : Width}
      (hr : w = .word ∨ isLongReg r = true) := resolve_reg (locMode_of_fixed h s) hr
  refine ⟨fun n w => fixed (by cases n <;> decide) (.inr rfl), fixed (by decide) (.inl rfl),
    fun w => fixed (by decide) (.inr rfl), fixed (by decide) (.inl rfl), fun w => fixed (by decide) (.inr rfl),
    fun w => fixed (by decide) (.inr rfl), fixed (by decide) (.inl rfl), fun _ => rfl, rfl, rfl, rfl, rfl, rfl, rfl,
    fun _ => rfl, rfl, rfl, rfl, fun _ => rfl, rfl, rfl, rfl, rfl, rfl, rfl, fun _ => rfl, rfl, rfl, rfl,
    fun n => XarFile.get_set_self .., fun n m ne => XarFile.get_set_ne _ _ _ _ ne⟩

/-- Settles O23: a place is read where the access is open and in order. -/
theorem openOperandsAreReadable : Obligations.OpenOperandsAreReadable := by
  intro s t loc a r
  refine ⟨fun sel acc ord => ⟨sel.1, ?_⟩, fun sel acc acc' ord ord' => ⟨sel.1, ?_⟩, fun sel => ⟨sel.1, ?_⟩,
    fun sel => ⟨sel.1, ?_⟩, State.dataAccess_ok_iff s a.toNat, fun low high => ?_⟩
  · have read : readData t a = .ok (t.mem.word a.toNat) := (readData_ok_iff ..).2 ⟨acc, ord, rfl⟩
    simp [readLoc16, sel.2, readPlace16, read]
  · have read : readData32 t a = .ok (longOf (t.mem.word (evenAddr a + 1).toNat) (t.mem.word (evenAddr a).toNat)) :=
      (readData32_ok_iff ..).2
        ⟨_, _, (readData_ok_iff ..).2 ⟨acc, ord, rfl⟩, (readData_ok_iff ..).2 ⟨acc', ord', rfl⟩, rfl⟩
    unfold readLoc32
    rw [sel.2, Res.ok_bind]
    show (readData32 t a >>= _) = _
    rw [read]; rfl
  · simp [readLoc16, sel.2, readPlace16]
  · simp [readLoc32, sel.2, readPlace32]
  · have closed : s.dataAccess a.toNat = .error (.emulationRegister a.toNat) := by
      simp [State.dataAccess, Config.dataHoles, Config.inRanges, low, high]
    exact ⟨by rw [readData, closed]; rfl, fun v => by rw [writeData, closed]; rfl⟩

namespace Sys2Proof.Machine

/-! ## The order of the two spaces -/

/-- After a store through one space, a read of the word through it is in order (R596). -/
theorem unordered_after_mark {s : State} (h : s.Inv) (m : Memory) (a : Nat) (p : Bool) :
    { s with mem := m, stores := s.mark a p }.unordered a p = false := by
  unfold State.unordered State.clash State.mark
  rw [List.any_eq_false]
  intro k hk
  split at hk
  · rcases List.mem_cons.1 hk with rfl | hk
    · simp
    · have := (List.mem_filter.1 hk).2
      simp at this
      simp [this]
  · rename_i far
    have := h.reach k hk
    have ne : k.word ≠ a := by omega
    simp [ne]

/-- A store of another word leaves a read in order. -/
theorem unordered_mark_ne {s : State} {w : Nat} {p : Bool} (h : s.unordered w p = false) (m : Memory) {a : Nat}
    (q : Bool) (ne : a ≠ w) : { s with mem := m, stores := s.mark a q }.unordered w p = false := by
  unfold State.unordered State.clash State.mark at *
  rw [List.any_eq_false] at *
  intro k hk
  split at hk
  · rcases List.mem_cons.1 hk with rfl | hk
    · simp [ne]
    · exact h k (List.mem_filter.1 hk).1
  · exact h k hk

/-- A word read where it was written. -/
theorem readData_writeData_self {s t : State} {a : DataAddr} {v : Word} (inv : s.Inv) (h : writeData s a v = .ok t) :
    readData t a = .ok v := by
  obtain ⟨access, -, rfl⟩ := (writeData_ok_iff ..).1 h
  exact (readData_ok_iff ..).2 ⟨access, unordered_after_mark inv _ _ _, (Memory.word_setWord_self ..).symm⟩

/-- A write leaves the reads of other words. -/
theorem readData_writeData_ne {s t : State} {a b : DataAddr} {v x : Word} (h : writeData s a v = .ok t)
    (hr : readData s b = .ok x) (ne : a.toNat ≠ b.toNat) : readData t b = .ok x := by
  obtain ⟨-, -, rfl⟩ := (writeData_ok_iff ..).1 h
  obtain ⟨access, order, word⟩ := (readData_ok_iff ..).1 hr
  exact (readData_ok_iff ..).2 ⟨access, unordered_mark_ne order _ _ ne,
    word.trans (Memory.word_setWord_ne _ _ _ _ ne.symm).symm⟩

/-- A write changes the two bytes of its word. -/
theorem get_writeData {s t : State} {a : DataAddr} {v : Word} (h : writeData s a v = .ok t) {k : Nat}
    (hk : k / 2 ≠ a.toNat) : t.mem.get k = s.mem.get k := by
  obtain ⟨-, -, rfl⟩ := (writeData_ok_iff ..).1 h
  exact Memory.get_setWord_ne _ _ _ _ (by omega) (by omega)

end Sys2Proof.Machine

/-- Settles O25: the two words of the pair are stored one after the other. -/
theorem longWriteReadBack : Obligations.LongWriteReadBack := by
  intro s t a b v inv write pair
  obtain ⟨u, low, high⟩ := (writeData32_ok_iff ..).1 write
  have readLow := readData_writeData_ne high (readData_writeData_self inv low) (evenAddr_succ_ne a).symm
  have readHigh := readData_writeData_self (inv.writeData low) high
  have even := evenAddr_toNat a
  have odd := evenAddr_succ_toNat a
  refine ⟨(readData32_ok_iff ..).2 ⟨_, _, ?_, ?_, (longOf_halves v).symm⟩, readLow, readHigh, by omega, fun k h0 h1 => ?_⟩
  · rw [pair]; exact readLow
  · rw [pair]; exact readHigh
  · rw [get_writeData high (by omega), get_writeData low (by omega)]

namespace Sys2Proof.Machine

/-- The state `k` instructions later, nothing else having happened. -/
def State.later (s : State) (k : Nat) : State := { s with icount := s.icount + k }

/-- A mark the previous instruction left of an access through the other space. -/
theorem clash_of_mem {s : State} {ks : List AccessMark} {a : Nat} {p q : Bool} (ne : q ≠ p)
    (h : ⟨a, q, s.icount⟩ ∈ ks) : (s.later 1).clash ks a p = true := by
  unfold State.clash State.later
  exact List.any_eq_true.2 ⟨_, h, by simp [ne]⟩

theorem mem_mark {s : State} {a : Nat} (ha : a < 4194304) (p : Bool) : ⟨a, p, s.icount⟩ ∈ s.mark a p := by
  unfold State.mark
  rw [if_pos ha]
  exact List.mem_cons_self

/-- Right after a store every access through the other space is out of order; one instruction later a read is in
order. -/
theorem unordered_of_mark {s t : State} {a : Nat} {p q : Bool} (ha : a < 4194304) (ne : q ≠ p)
    (ht : t.stores = s.mark a q) (hi : t.icount = s.icount) :
    (t.later 1).unordered a p = true ∧ (t.later 1).unorderedWrite a p = true ∧ (t.later 2).unordered a p = false := by
  have marked : (t.later 1).clash t.stores a p = true := clash_of_mem ne (by rw [ht, hi]; exact mem_mark ha q)
  refine ⟨marked, Bool.or_eq_true_iff.2 (.inl marked), ?_⟩
  unfold State.unordered State.clash State.later State.mark at *
  rw [List.any_eq_false, ht, if_pos ha]
  refine List.forall_mem_cons.2 ⟨?_, fun k hk => ?_⟩
  · simp [hi]
  · have := (List.mem_filter.1 hk).2
    simp at this
    simp [this]

theorem readData_unordered {s : State} {a : DataAddr} (access : s.dataAccess a.toNat = .ok ())
    (h : s.unordered a.toNat false = true) : readData s a = .error (.unorderedAccess a.toNat) := by
  simp only [readData, access, Res.ok_bind, State.inOrder, h, if_true]
  rfl

theorem writeData_unordered {s : State} {a : DataAddr} (access : s.dataAccess a.toNat = .ok ())
    (h : s.unorderedWrite a.toNat false = true) (v : Word) : writeData s a v = .error (.unorderedAccess a.toNat) := by
  simp only [writeData, access, Res.ok_bind, State.writeInOrder, h, if_true]
  rfl

theorem readProg_unordered {s : State} {a : ProgAddr} (h : s.unordered (s.progWord a) true = true) :
    readProg s a = .error (.unorderedAccess (s.progWord a)) := by
  simp only [readProg, progAccess_ok, Res.ok_bind, State.inOrder, h, if_true]
  rfl

theorem writeProg_unordered {s : State} {a : ProgAddr} (h : s.unorderedWrite (s.progWord a) true = true) (v : Word) :
    writeProg s a v = .error (.unorderedAccess (s.progWord a)) := by
  simp only [writeProg, progAccess_ok, Res.ok_bind, State.writeInOrder, h, if_true]
  rfl

/-! ## The words an instruction reads -/

/-- An instruction that reads its `loc` operand marks the words of the place. -/
theorem dataReads_of_loc {i : Instr} {w : Width} {loc : Loc} (s : State) (hl : locOperand i = some (w, loc))
    (hs : storesOnly i = false) : dataReads i s = placeWords w loc s := by
  unfold dataReads
  split
  case h_7 => rw [hl]; simp [hs]
  all_goals cases hl

theorem mem_readsWith_data {s : State} {i : Instr} {a : Nat} (h : a ∈ dataReads i s) :
    ⟨a, false, s.icount + 1⟩ ∈ s.readsWith i := State.mem_readsWith.2 (.inl ⟨rfl, h⟩)

end Sys2Proof.Machine

/-- Settles O26: what a store leaves and a read answers, the marks, and the words of an operand. -/
theorem spacesShareStorage : Obligations.SpacesShareStorage := by
  intro s a v map d after
  have word (t : State) (h : t.st1 = s.st1) : t.progWord a = a.toNat := State.progWord_eq t a (h ▸ map)
  have low : a.toNat < 4194304 := a.isLt
  have number : d.toNat = a.toNat := by simp only [d, BitVec.toNat_setWidth]; omega
  have access (t : State) (k : Nat) (h : t.dataAccess a.toNat = .ok ()) : (after t k).dataAccess d.toNat = .ok () :=
    number.symm ▸ h
  refine ⟨fun t write => ?_, fun read => ?_, fun t write acc => ?_, fun t write => ?_, fun mark acc => ?_,
    fun mark => ?_, fun i loc b t reads => ⟨fun hl sel => ?_, fun hl sel => ?_⟩, fun loc rpt addr => ?_⟩
  · obtain ⟨-, rfl⟩ := (writeProg_ok_iff ..).1 write
    rw [word s rfl]
    exact ⟨Memory.word_setWord_self .., fun k hk => Memory.get_setWord_ne _ _ _ _ (by omega) (by omega)⟩
  · obtain ⟨-, rfl⟩ := (readProg_ok_iff ..).1 read
    rw [word s rfl]
  · obtain ⟨-, ht⟩ := (writeProg_ok_iff ..).1 write
    rw [word s rfl] at ht
    obtain ⟨next, nextWrite, later⟩ := unordered_of_mark (s := s) (t := t) (q := true) (p := false) low nofun (by rw [ht])
      (by rw [ht])
    have held : v = (after t 2).mem.word d.toNat := by
      rw [number, show (after t 2).mem = s.mem.setWord a.toNat v from congrArg State.mem ht, Memory.word_setWord_self]
    rw [← number] at next nextWrite later ⊢
    exact ⟨readData_unordered (access t 1 acc) next, (readData_ok_iff ..).2 ⟨access t 2 acc, later, held⟩,
      writeData_unordered (access t 1 acc) nextWrite⟩
  · obtain ⟨acc, -, ht⟩ := (writeData_ok_iff ..).1 write
    rw [number] at ht
    obtain ⟨next, nextWrite, later⟩ := unordered_of_mark (s := s) (t := t) (q := false) (p := true) low nofun (by rw [ht])
      (by rw [ht])
    have same (k : Nat) : (after t k).progWord a = a.toNat := word (after t k) (by show t.st1 = s.st1; rw [ht])
    have held : v = (after t 2).mem.word ((after t 2).progWord a) := by
      rw [same, show (after t 2).mem = s.mem.setWord a.toNat v from congrArg State.mem ht, Memory.word_setWord_self]
    rw [← same 1] at next nextWrite
    rw [← same 2] at later
    rw [← same 1]
    exact ⟨readProg_unordered next, (readProg_ok_iff ..).2 ⟨later, held⟩, writeProg_unordered nextWrite⟩
  · have clash : (s.later 1).unorderedWrite a.toNat false = true :=
      Bool.or_eq_true_iff.2 (.inr (clash_of_mem (s := s) (q := true) (p := false) nofun mark))
    rw [← number] at clash ⊢
    exact writeData_unordered (access s 1 acc) clash v
  · have clash : (s.later 1).unorderedWrite a.toNat true = true :=
      Bool.or_eq_true_iff.2 (.inr (clash_of_mem (s := s) (q := false) (p := true) nofun mark))
    rw [← word (s.later 1) rfl] at clash ⊢
    exact writeProg_unordered clash v
  · have words : placeWords .word loc s = [b.toNat] := by unfold placeWords; rw [sel.2]
    exact mem_readsWith_data (by rw [dataReads_of_loc s hl reads, words]; exact List.mem_singleton_self _)
  · have words : placeWords .long loc s = [(evenAddr b).toNat, (evenAddr b + 1).toNat] := by
      unfold placeWords; rw [sel.2]
    constructor
    · exact mem_readsWith_data (by rw [dataReads_of_loc s hl reads, words]; exact List.mem_cons_self)
    · exact mem_readsWith_data (by rw [dataReads_of_loc s hl reads, words]; exact List.mem_cons_of_mem _ List.mem_cons_self)
  · have here : s.operandAddr s.xar7Addr = a := by
      unfold State.operandAddr
      rw [rpt]
      exact addr
    have words : progReads (.pread loc) s = [a.toNat] := by
      show [s.progWord (s.operandAddr s.xar7Addr)] = _
      rw [here, word s rfl]
    refine State.mem_readsWith.2 (.inl ⟨rfl, ?_⟩)
    show a.toNat ∈ progReads (.pread loc) s
    rw [words]
    exact List.mem_singleton_self _

namespace Sys2Proof.Machine

/-! ## Refused operands -/

section
variable {w : Width} {loc : Loc} {s : State} {r : Refusal} {len : ProgAddr}

theorem withLoc_refused {body : Res State} (ht : locTraps w loc s = false) (hb : body = .error r) :
    withLoc w loc s body = .refused r := by
  rw [withLoc_run ht, hb]; rfl

/-! Each shape refuses what its operand does. -/

theorem reading16_refused {f : Word → State → State} (ht : locTraps .word loc s = false)
    (hr : resolve .word loc s = .error r) : reading16 len loc s f = .refused r :=
  withLoc_refused ht (by rw [readLoc16, hr]; rfl)

theorem reading32_refused {f : Long → State → State} (ht : locTraps .long loc s = false)
    (hr : resolve .long loc s = .error r) : reading32 len loc s f = .refused r :=
  withLoc_refused ht (by rw [readLoc32, hr]; rfl)

theorem storing16_refused {v : Word} (ht : locTraps .word loc s = false) (hr : resolve .word loc s = .error r) :
    storing16 len loc s v = .refused r := withLoc_refused ht (by rw [writeLoc16, hr]; rfl)

theorem updating16_refused {f : Word → Word × St0} (ht : locTraps .word loc s = false)
    (hr : resolve .word loc s = .error r) : updating16 len loc s f = .refused r :=
  withLoc_refused ht (by rw [updateLoc16, hr]; rfl)

theorem updating32_refused {f : Long → Long × St0} (ht : locTraps .long loc s = false)
    (hr : resolve .long loc s = .error r) : updating32 len loc s f = .refused r :=
  withLoc_refused ht (by rw [updateLoc32, hr]; rfl)

theorem condKnown_ok {c : Cond} (h : c ≠ .nbio) : condKnown c = .ok () := if_neg h

theorem condStore16_refused {c : Cond} {v : Word} (hc : c ≠ .nbio) (ht : locTraps .word loc s = false)
    (hr : resolve .word loc s = .error r) : condStore16 c loc s v = .refused r :=
  withLoc_refused ht (by rw [condKnown_ok hc, hr]; rfl)

theorem condStore32_refused {c : Cond} (hc : c ≠ .nbio) (ht : locTraps .long loc s = false)
    (hr : resolve .long loc s = .error r) : execMovlLoc32AccCond c loc s = .refused r :=
  withLoc_refused ht (by rw [condKnown_ok hc, hr]; rfl)

theorem xar7Free_ok (hx : s.locUsesXar7 loc = false) : s.xar7Free loc = .ok () := by
  unfold State.xar7Free; rw [hx]; rfl

theorem xar7Free_error (hx : s.locUsesXar7 loc = true) : s.xar7Free loc = .error .operandUsesXar7 := by
  unfold State.xar7Free; rw [hx]; rfl

theorem macConst_refused {a : ProgAddr} (ht : locTraps .word loc s = false) (hr : resolve .word loc s = .error r) :
    macConst a loc s = .refused r := withLoc_refused ht (by rw [readLoc16, hr]; rfl)

theorem macLong_refused {k : ProgAddr} {f : Long → Long → State → State} (hx : s.locUsesXar7 loc = false)
    (ht : locTraps .long loc s = false) (hr : resolve .long loc s = .error r) : macLong loc s k f = .refused r :=
  withLoc_refused ht (by rw [xar7Free_ok hx, readLoc32, hr]; rfl)

theorem macLongInc_refused {f : Long → Long → State → State} (hx : s.locUsesXar7 loc = false)
    (ht : locTraps .long loc s = false) (hr : resolve .long loc s = .error r) : macLongInc loc s f = .refused r :=
  withLoc_refused ht (by rw [xar7Free_ok hx, readLoc32, hr]; rfl)

theorem exec_word_refused {i : Instr} (hl : locOperand i = some (.word, loc)) (hx : s.locUsesXar7 loc = false)
    (ht : locTraps .word loc s = false) (hr : resolve .word loc s = .error r) (h1 : ∀ h l, i ≠ .movLoc16AxCond h .nbio l)
    (h2 : ∀ x l, i ≠ .movbLoc16Cond .nbio x l) : exec i s = .refused r := by
  cases i <;> cases hl
  all_goals simp only [exec]
  case addLoc16Ax | addLoc16Imm | incLoc16 | subLoc16Ax | subrLoc16Ax | decLoc16 | tclr | tset =>
    exact updating16_refused ht hr
  case movLoc16AccShl1 | movLoc16AccShl | movhLoc16AccShl1 | movhLoc16AccShl | movLoc16P | movhLoc16P | movLoc16Ier =>
    exact storing16_refused ht hr
  case movLoc16AxCond ax c => exact condStore16_refused (fun hc => h1 ax loc (hc ▸ rfl)) ht hr
  case movbLoc16Cond c k => exact condStore16_refused (fun hc => h2 k loc (hc ▸ rfl)) ht hr
  case macPma | xmac => exact macConst_refused ht hr
  case macXar7 | macXar7Inc => exact withLoc_refused ht (by rw [xar7Free_ok hx, readLoc16, hr]; rfl)
  case movad | xmacd | pread => exact withLoc_refused ht (by rw [hr]; rfl)
  case pwrite | loopnz | loopz => exact withLoc_refused ht (by rw [readLoc16, hr]; rfl)
  case addAccP | subAccP | movAccP =>
    cases (resolve_reg (locMode_of_fixed (m := .reg .t) (by decide) s) (.inl rfl)).symm.trans hr
  case pushIer => cases (resolve_mem (locMode_of_fixed (m := .mem .spInc) (by decide) s)).symm.trans hr
  all_goals exact reading16_refused ht hr

theorem exec_long_refused {i : Instr} (hl : locOperand i = some (.long, loc)) (hx : s.locUsesXar7 loc = false)
    (ht : locTraps .long loc s = false) (hr : resolve .long loc s = .error r)
    (h : ∀ l, i ≠ .movlLoc32AccCond .nbio l) : exec i s = .refused r := by
  cases i <;> cases hl
  all_goals simp only [exec]
  case addlLoc32Acc | sublLoc32Acc | subrlLoc32Acc => exact updating32_refused ht hr
  case dmacXar7 | imaclXar7 | qmaclXar7 => exact macLong_refused hx ht hr
  case dmacXar7Inc | imaclXar7Inc | qmaclXar7Inc => exact macLongInc_refused hx ht hr
  case movlLoc32AccCond c => exact condStore32_refused (fun hc => h loc (hc ▸ rfl)) ht hr
  case pushXar0 | pushXar1 | pushXar2 | pushXar3 | pushXar4 | pushXar5 | pushXar6 | pushXar7 | pushXt =>
    cases (resolve_mem (locMode_of_fixed (m := .mem .spInc) (by decide) s)).symm.trans hr
  case popXar0 | popXar1 | popXar2 | popXar3 | popXar4 | popXar5 | popXar6 | popXar7 | popXt =>
    cases (resolve_mem (locMode_of_fixed (m := .mem .spDec) (by decide) s)).symm.trans hr
  all_goals exact reading32_refused ht hr

/-- With AMODE = 1 these fields name a mode whose effect the spec does not give (log 12). -/
theorem locMode_noEffect (amode : s.st1.amode = true) (h : loc.extractLsb' 6 2 = 3 ∨ loc = 0xBF) :
    s.locMode loc = .noEffectGiven := by
  refine locMode_of_amode amode ?_
  rcases h with h | rfl
  · have top : loc.toNat >>> 6 % 4 = 3 := (BitVec.extractLsb'_toNat ..).symm.trans (congrArg BitVec.toNat h)
    rw [Nat.shiftRight_eq_div_pow] at top
    have field (k : Nat) (hk : loc.toNat / 2 ^ k % 2 = 1) : loc.extractLsb' k 1 ≠ 0#1 := by
      intro zero
      have : loc.toNat >>> k % 2 = 0 := (BitVec.extractLsb'_toNat ..).symm.trans (congrArg BitVec.toNat zero)
      rw [Nat.shiftRight_eq_div_pow] at this
      omega
    have bit7 := field 7 (by omega)
    have bit6 := field 6 (by omega)
    rw [decodeLoc, if_neg bit7, if_neg bit6]
    rfl
  · rfl

/-- A 16-bit half where 32 bits are wanted. -/
theorem locMode_half (h : loc = 0xA8 ∨ loc = 0xAA) : s.locMode loc = .reg .ah ∨ s.locMode loc = .reg .ph := by
  rcases h with rfl | rfl
  · exact .inl (locMode_of_fixed (by decide) s)
  · exact .inr (locMode_of_fixed (by decide) s)

theorem locTraps_false (hm : ¬ (s.st1.page0 = true ∧ s.st1.amode = true)) (hsp : s.locMode loc ≠ .reg .sp) :
    locTraps w loc s = false := by
  have mode : (s.st1.page0 && s.st1.amode) = false := by simpa using hm
  have sp : (s.locMode loc == .reg .sp) = false := by simpa using hsp
  unfold locTraps
  rw [mode, sp]
  simp

end

end Sys2Proof.Machine

/-- Settles O27: what stops each shape before its operand is used. -/
theorem undescribedFormsRefused : Obligations.UndescribedFormsRefused := by
  intro s loc c k ax
  refine ⟨fun r t sel => ⟨?_, ?_⟩, fun ht hx => ⟨?_, ?_⟩, fun ht hx => ⟨?_, ?_, ?_, ?_, ?_, ?_⟩, fun i hl half mode nbio => ?_,
    fun i w hl field page0 amode nbio nbio' nbio'' => ?_, rfl, rfl, rfl, rfl, rfl, rfl, fun ht => ⟨?_, ?_⟩, fun ht => ?_⟩
  · exact withLoc_refused sel.1 (by rw [sel.2]; rfl)
  · exact withLoc_refused sel.1 (by rw [sel.2]; rfl)
  iterate 2 exact withLoc_refused ht (by rw [xar7Free_error hx]; rfl)
  iterate 6 exact withLoc_refused ht (by rw [xar7Free_error hx]; rfl)
  · have uses : s.locUsesXar7 loc = false := by
      rcases locMode_half half with h | h <;> (unfold State.locUsesXar7; rw [h]; rfl)
    have ht : locTraps .long loc s = false := by
      refine locTraps_false mode ?_
      rcases locMode_half half with h | h <;> (rw [h]; exact nofun)
    have hr : resolve .long loc s = .error .halfRegisterAsLong := by
      rcases locMode_half half with h | h <;> (unfold resolve; rw [h]; rfl)
    exact exec_long_refused hl uses ht hr nbio
  · have none := locMode_noEffect amode field
    have uses : s.locUsesXar7 loc = false := by unfold State.locUsesXar7; rw [none]
    have ht : locTraps w loc s = false := locTraps_false (by simp [page0]) (by rw [none]; exact nofun)
    have hr : resolve w loc s = .error (.addressingMode loc) := by unfold resolve; rw [none]
    cases w with
    | word => exact exec_word_refused hl uses ht hr nbio nbio'
    | long => exact exec_long_refused hl uses ht hr nbio''
  iterate 2 exact withLoc_refused ht rfl
  · exact withLoc_refused ht rfl

end

section
-- One proof at a time: elaborated side by side, the proofs of the joined text need more memory than a check has.
set_option Elab.async false
/-! PROOFS. The ALU procedures against exact arithmetic (10_state.md section 8, 43_shift.md, 44_multiply.md). -/

namespace Sys2Proof.Machine

/-! ## N, Z and V -/

section
variable {w : Nat} (f : St0) (r : BitVec w)

theorem msb_eq_decide : r.msb = decide (r.toInt < 0) := BitVec.msb_eq_toInt

theorem beq_zero_eq_decide : (r == 0) = decide (r.toNat = 0) := by
  rw [beq_eq_decide]
  exact decide_eq_decide.2 BitVec.toNat_eq

theorem setNZ_n : (setNZ f r).n = decide (r.toInt < 0) := msb_eq_decide r

theorem setNZ_z : (setNZ f r).z = decide (r.toNat = 0) := beq_zero_eq_decide r

end

/-- By how many times 2^32 an exact result wraps (R33). -/
def wraps (x : Int) : Int := if 2147483647 < x then 1 else if x < -2147483648 then -1 else 0

theorem overflow32_cases (x : Int) :
    (2147483647 < x ∧ overflow32 x = .positive ∧ wraps x = 1) ∨
      (x < -2147483648 ∧ overflow32 x = .negative ∧ wraps x = -1) ∨
        (-2147483648 ≤ x ∧ x ≤ 2147483647 ∧ overflow32 x = .none ∧ wraps x = 0) := by
  unfold overflow32 wraps
  split
  · exact .inl ⟨‹_›, rfl, rfl⟩
  · split
    · exact .inr (.inl ⟨‹_›, rfl, rfl⟩)
    · exact .inr (.inr ⟨by omega, by omega, rfl, rfl⟩)

theorem latchV_overflow32 (f : St0) (x : Int) : latchV f (overflow32 x) = (f.v || decide (wraps x ≠ 0)) := by
  rcases overflow32_cases x with ⟨-, o, d⟩ | ⟨-, o, d⟩ | ⟨-, -, o, d⟩ <;> rw [o, d] <;> rfl

/-- A 32-bit result that is the exact one modulo 2^32 and no further off than one wrap. -/
theorem toInt_add_wraps {r : Long} {x : Int} (hr : (r.toNat : Int) = x % 4294967296) (low : -6442450944 ≤ x)
    (high : x < 6442450944) : r.toInt + 2 ^ 32 * wraps x = x := by
  have signed := BitVec.toInt_eq_toNat_cond r
  have := r.isLt
  rcases overflow32_cases x with ⟨_, -, d⟩ | ⟨_, -, d⟩ | ⟨_, _, -, d⟩ <;> rw [d] <;> split at signed <;> omega

/-! ## AddAcc and SubAcc -/

/-- The result of AddAcc and SubAcc from the exact one, the wrapped one and the carry (R75, R76). -/
def fromExact (f : St0) (x : Int) (r : Long) (c : Bool) : Long × St0 :=
  let s := saturate f (overflow32 x) r
  (s, setNZ { f with c := c, v := latchV f (overflow32 x), ovc := countOverflow f (overflow32 x) } s)

theorem addAcc_eq (f : St0) (a b : Long) (cin : Bool) : addAcc f a b cin =
    fromExact f (a.toInt + b.toInt + cin.toNat) (BitVec.ofNat 32 (a.toNat + b.toNat + cin.toNat))
      (decide (2 ^ 32 ≤ a.toNat + b.toNat + cin.toNat)) := rfl

theorem subAcc_eq (f : St0) (a b : Long) (bin : Bool) : subAcc f a b bin =
    fromExact f (a.toInt - b.toInt - bin.toNat) (a - b - BitVec.ofNat 32 bin.toNat)
      (decide (b.toNat + bin.toNat ≤ a.toNat)) := by
  have carry : (!decide (a.toNat < b.toNat + bin.toNat)) = decide (b.toNat + bin.toNat ≤ a.toNat) := by
    rw [← decide_not]; exact decide_eq_decide.2 Nat.not_lt
  rw [← carry]; rfl

/-- What both procedures say of their result. -/
theorem fromExact_exact {f : St0} {x : Int} {r : Long} {c : Bool} (hr : (r.toNat : Int) = x % 4294967296)
    (low : -6442450944 ≤ x) (high : x < 6442450944) :
    let p := fromExact f x r c
    p.2.c = c ∧ (f.ovm = false → p.1.toInt + 2 ^ 32 * wraps x = x ∧ p.2.ovc = f.ovc + BitVec.ofInt 6 (wraps x)) ∧
    (f.ovm = true → p.1.toInt = max (-2147483648) (min x 2147483647) ∧ p.2.ovc = f.ovc) ∧
    p.2.v = (f.v || decide (wraps x ≠ 0)) ∧ p.2.n = decide (p.1.toInt < 0) ∧ p.2.z = decide (p.1.toNat = 0) ∧
    p.2.pm = f.pm ∧ p.2.tc = f.tc ∧ p.2.ovm = f.ovm ∧ p.2.sxm = f.sxm := by
  intro p
  have exact := toInt_add_wraps hr low high
  refine ⟨rfl, fun wrapping => ⟨?_, ?_⟩, fun saturating => ⟨?_, ?_⟩, latchV_overflow32 f x, setNZ_n .., setNZ_z .., rfl, rfl,
    rfl, rfl⟩
  · rw [show p.1 = r from if_neg (by simp [wrapping])]; exact exact
  · show countOverflow f (overflow32 x) = _
    unfold countOverflow
    rw [if_neg (by simp [wrapping])]
    rcases overflow32_cases x with ⟨-, o, d⟩ | ⟨-, o, d⟩ | ⟨-, -, o, d⟩ <;> rw [o, d]
    · rfl
    · exact BitVec.sub_eq_add_neg ..
    · exact (BitVec.add_zero _).symm
  · show (saturate f (overflow32 x) r).toInt = _
    unfold saturate
    rw [if_pos saturating]
    rcases overflow32_cases x with ⟨far, o, d⟩ | ⟨far, o, d⟩ | ⟨near, near', o, d⟩ <;> rw [o]
    · exact (show (2147483647 : Int) = max (-2147483648) (min x 2147483647) by omega)
    · exact (show (-2147483648 : Int) = max (-2147483648) (min x 2147483647) by omega)
    · rw [d] at exact
      show r.toInt = _
      omega
  · exact if_pos saturating

/-- Settles O28: both procedures by `fromExact_exact`. -/
theorem accAddSubExact : Obligations.AccAddSubExact := by
  refine ⟨fun f a b cin => ?_, fun f a b bin => ?_⟩
  · have ha := BitVec.toInt_eq_toNat_cond a
    have hb := BitVec.toInt_eq_toNat_cond b
    have := a.isLt
    have := b.isLt
    have := cin.toNat_le
    rw [addAcc_eq]
    refine fromExact_exact ?_ ?_ ?_
    · rw [BitVec.toNat_ofNat]; split at ha <;> split at hb <;> omega
    · split at ha <;> split at hb <;> omega
    · split at ha <;> split at hb <;> omega
  · have ha := BitVec.toInt_eq_toNat_cond a
    have hb := BitVec.toInt_eq_toNat_cond b
    have := a.isLt
    have := b.isLt
    have := bin.toNat_le
    rw [subAcc_eq]
    refine fromExact_exact ?_ ?_ ?_
    · rw [BitVec.toNat_sub, BitVec.toNat_sub, BitVec.toNat_ofNat]
      split at ha <;> split at hb <;> omega
    · split at ha <;> split at hb <;> omega
    · split at ha <;> split at hb <;> omega

/-! ## Unsigned and 16-bit addition and subtraction -/

theorem latchV_overflow32' (f : St0) (x : Int) :
    latchV f (overflow32 x) = (f.v || decide (x < -2147483648 ∨ 2147483647 < x)) := by
  rw [latchV_overflow32]
  congr 1
  refine decide_eq_decide.2 ?_
  unfold wraps
  split <;> [skip; split] <;> simp <;> omega

theorem latchV_overflow16 (f : St0) (x : Int) :
    latchV f (overflow16 x) = (f.v || decide (x < -32768 ∨ 32767 < x)) := by
  unfold overflow16
  split
  · simp [latchV, *]
  · split
    · simp [latchV, *]
    · simp [latchV, *]

theorem carry_add {w : Nat} (a b : BitVec w) :
    (a + b).toNat + 2 ^ w * (decide (2 ^ w ≤ a.toNat + b.toNat)).toNat = a.toNat + b.toNat := by
  have := a.isLt
  have := b.isLt
  rw [BitVec.toNat_add]
  by_cases h : 2 ^ w ≤ a.toNat + b.toNat
  · rw [Nat.mod_eq_sub_mod h, Nat.mod_eq_of_lt (by omega)]; simp [h]
  · rw [Nat.mod_eq_of_lt (by omega)]; simp [h]

theorem borrow_sub {w : Nat} (a b : BitVec w) :
    (a - b).toNat + b.toNat = a.toNat + 2 ^ w * (decide (a.toNat < b.toNat)).toNat := by
  have := a.isLt
  have := b.isLt
  by_cases h : a.toNat < b.toNat
  · rw [BitVec.toNat_sub, Nat.mod_eq_of_lt (by omega)]; simp [h]; omega
  · rw [BitVec.toNat_sub_of_le (by rw [BitVec.le_def]; omega)]; simp [h]; omega

/-- Settles O29. -/
theorem unsignedAndWordAddSub : Obligations.UnsignedAndWordAddSub := by
  refine ⟨fun f a b => ?_, fun f a b => ?_⟩
  · intro p m
    have count (c : Bool) : (if c then f.ovc + 1 else f.ovc) = f.ovc + BitVec.ofNat 6 c.toNat := by
      cases c
      · exact (BitVec.add_zero _).symm
      · rfl
    have countDown (c : Bool) : (if c then f.ovc - 1 else f.ovc) = f.ovc - BitVec.ofNat 6 (!!c).toNat := by
      cases c
      · exact (BitVec.sub_zero _).symm
      · rfl
    have borrow := borrow_sub a b
    rw [← Bool.not_not (decide (a.toNat < b.toNat))] at borrow
    exact ⟨carry_add a b, count _, latchV_overflow32' .., setNZ_n .., setNZ_z .., rfl, rfl, rfl, rfl, borrow, countDown _,
      latchV_overflow32' .., setNZ_n .., setNZ_z .., rfl, rfl, rfl, rfl⟩
  · intro p m
    have borrow := borrow_sub a b
    rw [← Bool.not_not (decide (a.toNat < b.toNat))] at borrow
    exact ⟨carry_add a b, latchV_overflow16 .., setNZ_n .., setNZ_z .., rfl, rfl, rfl, rfl, rfl, borrow,
      latchV_overflow16 .., setNZ_n .., setNZ_z .., rfl, rfl, rfl, rfl, rfl, add16Mem_eq .., sub16Mem_eq ..⟩

/-! ## Conditions -/

/-- Settles O32: each test by the flags it looks at, and the flags of a compare by `cmpFlags_c`, `cmpFlags_z` and
`cmpFlags_n`. -/
theorem conditionsAfterCompare : Obligations.ConditionsAfterCompare := by
  refine ⟨fun f => ?_, fun w f a b _ => ?_⟩
  · refine ⟨?_, ?_, ?_, ?_, ?_, ?_, ?_, ?_, ?_, ?_, ?_, ?_, ?_, ?_, rfl, rfl, fun c => condKnown_ok, rfl, rfl, fun c nov ov => ?_⟩
    iterate 14 simp [condHolds]
    cases c
    case nov | ov => contradiction
    all_goals rfl
  · intro g
    have c : g.c = decide (b.toNat ≤ a.toNat) := cmpFlags_c f a b
    have z : g.z = decide (a = b) := beq_eq_decide ..
    have n : g.n = decide (a.toInt < b.toInt) := rfl
    have eq_toInt : a = b ↔ a.toInt = b.toInt := BitVec.toInt_inj.symm
    have eq_toNat : a = b ↔ a.toNat = b.toNat := BitVec.toNat_eq
    refine ⟨?_, ?_, ?_, ?_, ?_, ?_, ?_, ?_, ?_, ?_, rfl, rfl, rfl, rfl, rfl, rfl⟩
    · simp [condHolds, z]
    · simp [condHolds, z]
    · simp [condHolds, n]
    · simp [condHolds, z, n, eq_toInt]; omega
    · simp [condHolds, z, n, eq_toInt]; omega
    · simp [condHolds, n]
    · simp [condHolds, c]
    · simp [condHolds, c, z, eq_toNat]; omega
    · simp [condHolds, c, z, eq_toNat]; omega
    · simp [condHolds, c]

/-! ## Shifts and rotates -/

theorem getLsbD_eq_decide {w : Nat} (x : BitVec w) (k : Nat) : x.getLsbD k = decide (x.toNat / 2 ^ k % 2 = 1) :=
  Nat.testBit_eq_decide_div_mod_eq

theorem outLeft_eq {w : Nat} (x : BitVec w) (k : Nat) :
    outLeft x k = (decide (0 < k) && decide (x.toNat / 2 ^ (w - k) % 2 = 1)) := by
  unfold outLeft
  rw [getLsbD_eq_decide]
  split
  · simp [*]
  · simp [Nat.pos_of_ne_zero ‹_›]

theorem outRight_eq {w : Nat} (x : BitVec w) (k : Nat) :
    outRight x k = (decide (0 < k) && decide (x.toNat / 2 ^ (k - 1) % 2 = 1)) := by
  unfold outRight
  rw [getLsbD_eq_decide]
  split
  · simp [*]
  · simp [Nat.pos_of_ne_zero ‹_›]

theorem rol_toNat (f : St0) (x : Long) : (rol f x).1.toNat = (2 * x.toNat + f.c.toNat) % 2 ^ 32 := by
  have := f.c.toNat_le
  have := x.isLt
  refine (toNat_append_add (x.extractLsb' 0 31) (flagBit f.c)).trans ?_
  rw [BitVec.extractLsb'_toNat, BitVec.toNat_ofBool]
  simp only [Nat.shiftRight_zero]
  omega

theorem ror_toNat (f : St0) (x : Long) : (ror f x).1.toNat = x.toNat / 2 + 2 ^ 31 * f.c.toNat := by
  have := x.isLt
  refine (toNat_append_add (flagBit f.c) (x.extractLsb' 1 31)).trans ?_
  rw [BitVec.extractLsb'_toNat, BitVec.toNat_ofBool, Nat.shiftRight_eq_div_pow]
  omega

theorem rol_c (f : St0) (x : Long) : (rol f x).2.c = x.msb := (BitVec.msb_eq_getLsbD_last x).symm

theorem ror_c (f : St0) (x : Long) : (ror f x).2.c = decide (x.toNat % 2 = 1) := by
  refine (getLsbD_eq_decide x 0).trans ?_
  rw [Nat.pow_zero, Nat.div_one]

theorem toNat_eq_msb (x : Long) : x.toNat / 2 ^ 31 = x.msb.toNat := by
  have := x.isLt
  rw [BitVec.msb_eq_getLsbD_last, getLsbD_toNat]
  omega

/-- Settles O33. -/
theorem shiftsAreScaling : Obligations.ShiftsAreScaling := by
  refine ⟨fun w f x k pos le => ?_, fun f x => ?_⟩
  · refine ⟨?_, ?_, sshiftRight_toInt_eq_div x k, outLeft_eq x k, outRight_eq x k, rfl, ?_⟩
    · exact (BitVec.toNat_shiftLeft ..).trans (by rw [Nat.shiftLeft_eq])
    · exact (BitVec.toNat_ushiftRight ..).trans (Nat.shiftRight_eq_div_pow ..)
    · simp only [List.forall_mem_cons]
      exact ⟨⟨setNZ_n .., setNZ_z .., rfl⟩, ⟨setNZ_n .., setNZ_z .., rfl⟩, ⟨setNZ_n .., setNZ_z .., rfl⟩, nofun⟩
  · have carry := f.c.toNat_le
    have rolled := rol_toNat f x
    have top := toNat_eq_msb x
    have := x.isLt
    have back := ror_toNat (rol f x).2 (rol f x).1
    rw [rol_c] at back
    refine ⟨rolled, rol_c f x, ror_toNat f x, ror_c f x, BitVec.eq_of_toNat_eq ?_, ?_, ?_⟩
    · omega
    · rw [ror_c, rolled]
      have odd : (2 * x.toNat + f.c.toNat) % 2 ^ 32 % 2 = f.c.toNat := by omega
      rw [odd]
      cases f.c <;> rfl
    · simp only [List.forall_mem_cons]
      exact ⟨⟨setNZ_n .., setNZ_z .., rfl⟩, ⟨setNZ_n .., setNZ_z .., rfl⟩, nofun⟩

/-! ## Products -/

theorem abs_toInt_le {w : Nat} (x : BitVec w) : |x.toInt| ≤ 2 ^ (w - 1) := by
  rw [abs_le]
  refine ⟨?_, ?_⟩
  · exact_mod_cast BitVec.le_toInt x
  · exact le_of_lt (by exact_mod_cast BitVec.toInt_lt)

/-- An exact result of fewer than `w` bits and a sign is the signed value. -/
theorem toInt_ofInt_of_abs {w : Nat} {y : Int} (pos : 0 < w) (h : |y| < 2 ^ (w - 1)) : (BitVec.ofInt w y).toInt = y := by
  obtain ⟨low, high⟩ := abs_lt.1 h
  exact BitVec.toInt_ofInt_eq_self pos (le_of_lt low) high

theorem mul16s_toInt (a b : Word) : (mul16s a b).toInt = a.toInt * b.toInt := by
  refine toInt_ofInt_of_abs (by decide) ?_
  rw [abs_mul]
  exact lt_of_le_of_lt (mul_le_mul (abs_toInt_le a) (abs_toInt_le b) (abs_nonneg _) (by positivity)) (by norm_num)

theorem mul32s_toInt (a b : Long) : (mul32s a b).toInt = a.toInt * b.toInt := by
  refine toInt_ofInt_of_abs (by decide) ?_
  rw [abs_mul]
  exact lt_of_le_of_lt (mul_le_mul (abs_toInt_le a) (abs_toInt_le b) (abs_nonneg _) (by positivity)) (by norm_num)

theorem mul32su_toInt (a b : Long) : (mul32su a b).toInt = a.toInt * (b.toNat : Int) := by
  have hb : |(b.toNat : Int)| ≤ 2 ^ 32 - 1 := by
    have := b.isLt
    rw [abs_of_nonneg (by omega)]; omega
  refine toInt_ofInt_of_abs (by decide) ?_
  rw [abs_mul]
  exact lt_of_le_of_lt (mul_le_mul (abs_toInt_le a) hb (abs_nonneg _) (by positivity)) (by norm_num)

/-- A 64-bit number as its signed high half and its unsigned low half. -/
theorem toInt_halves (x : Quad) : (x.extractLsb' 32 32).toInt * 2 ^ 32 + (x.extractLsb' 0 32).toNat = x.toInt := by
  have := x.isLt
  have whole := BitVec.toInt_eq_toNat_cond x
  have high := BitVec.toInt_eq_toNat_cond (x.extractLsb' 32 32)
  simp only [BitVec.extractLsb'_toNat, Nat.shiftRight_eq_div_pow] at high ⊢
  split at whole <;> split at high <;> omega

/-- The low 32 bits of an exact 64-bit result, from bit `k` on, are those of the number divided by 2^k. -/
theorem extract_eq_ofInt (x : Quad) {k : Nat} (hk : k ≤ 6) : x.extractLsb' k 32 = BitVec.ofInt 32 (x.toInt / 2 ^ k) := by
  have := x.isLt
  have whole := BitVec.toInt_eq_toNat_cond x
  apply BitVec.eq_of_toNat_eq
  rw [BitVec.extractLsb'_toNat, Nat.shiftRight_eq_div_pow, BitVec.toNat_ofInt]
  interval_cases k <;> (split at whole <;> omega)

theorem extract_ofInt (y : Int) : (BitVec.ofInt 64 y).extractLsb' 0 32 = BitVec.ofInt 32 y := by
  apply BitVec.eq_of_toNat_eq
  rw [BitVec.extractLsb'_toNat, BitVec.toNat_ofInt, BitVec.toNat_ofInt, Nat.shiftRight_zero]
  omega

section
variable (pm : BitVec 3) (am : Bool) (x : Quad)

/-- The modes from 2 on, but for the one AMODE turns into a left shift, take the bits from PM - 1 on. -/
theorem iprod_right (h : 2 ≤ pm.toNat) (h5 : ¬ (pm = 5 ∧ am = true)) :
    iprod pm am x = x.extractLsb' (pm.toNat - 1) 32 := by
  have not_pm0 : pm ≠ 0 := by rintro rfl; exact absurd h (by decide)
  have not_pm1 : pm ≠ 1 := by rintro rfl; exact absurd h (by decide)
  rw [iprod, if_neg not_pm0, if_neg not_pm1, if_neg (by simpa using h5)]

theorem iprod_copy : iprod 1 am x = BitVec.ofInt 32 x.toInt :=
  (extract_eq_ofInt x (Nat.zero_le _)).trans (by rw [pow_zero, Int.ediv_one])

theorem iprod_left {k : Nat} : (x <<< k).extractLsb' 0 32 = BitVec.ofInt 32 (((2 ^ k : Nat) : Int) * x.toInt) := by
  rw [shiftLeft_eq_ofInt_mul, extract_ofInt]

end

/-- Settles O34. -/
theorem productsExact : Obligations.ProductsExact := by
  refine ⟨mul16s_toInt, fun a b => ⟨?_, mul32s_toInt a b, mul32su_toInt a b⟩, fun pm am x => ⟨?_, ?_, ?_, fun h h5 => ?_⟩⟩
  · exact (toInt_halves (mul32s a b)).trans (mul32s_toInt a b)
  · rintro rfl; exact iprod_left x (k := 1)
  · rintro rfl; exact iprod_copy am x
  · rintro rfl rfl; exact iprod_left x (k := 4)
  · rw [iprod_right pm am x h h5, extract_eq_ofInt x (by have := pm.isLt; omega)]

end Sys2Proof.Machine
end

section
-- One proof at a time: elaborated side by side, the proofs of the joined text need more memory than a check has.
set_option Elab.async false
/-! PROOFS. Negation, absolute value and saturation, stepwise division, and the count of sign bits (41_acc_arith.md). -/

namespace Sys2Proof.Machine

/-! ## Negation, absolute value, saturation -/

section
variable {w : Nat} (f : St0) (x : BitVec w)

theorem negSat_of_ne (h : x ≠ BitVec.intMin w) : negSat f x = (-x, f) := if_neg h

theorem negSat_intMin :
    negSat f (BitVec.intMin w) = (if f.ovm then BitVec.intMax w else BitVec.intMin w, { f with v := true }) := if_pos rfl

/-- Negation touches V alone. -/
theorem negSat_frame : (negSat f x).2 = { f with v := (negSat f x).2.v } := by
  unfold negSat; split <;> rfl

theorem negOp_frame : (negOp f x).2 =
    { f with c := (negOp f x).2.c, n := (negOp f x).2.n, z := (negOp f x).2.z, v := (negOp f x).2.v,
             ovc := (negOp f x).2.ovc } := by
  unfold negOp
  by_cases h : x = BitVec.intMin w
  · subst h
    rw [negSat_intMin]
    rfl
  · rw [negSat_of_ne f x h]
    rfl

theorem satOp_value : (satOp f x).1 =
    if 0 < f.ovc.toInt then BitVec.intMax w else if f.ovc.toInt < 0 then BitVec.intMin w else x := rfl

theorem satOp_v : (satOp f x).2.v = (f.ovc != 0) := rfl

end

/-- The counter is 0 exactly where its signed value is. -/
theorem ovc_ne_zero (c : BitVec 6) : (c != 0) = decide (c.toInt ≠ 0) := by
  rw [bne, beq_eq_decide, ← decide_not]
  exact decide_eq_decide.2 (not_congr (by rw [← BitVec.toInt_inj]; rfl))

/-- ABS by the sign: the number itself, or its negation. -/
theorem absOp_value (f : St0) (x : Long) (h : x ≠ BitVec.intMin 32) : (absOp f x).1.toInt = |x.toInt| ∧ (absOp f x).2.v = f.v := by
  have sign := msb_eq_decide x
  unfold absOp
  cases hm : x.msb with
  | true =>
    have neg : x.toInt < 0 := by simpa [hm] using sign
    rw [if_pos rfl, negSat_of_ne f x h]
    exact ⟨by rw [abs_of_neg neg]; exact BitVec.toInt_neg_of_ne_intMin h, rfl⟩
  | false =>
    have nonneg : ¬ x.toInt < 0 := by simpa [hm] using sign
    rw [if_neg (by simp)]
    exact ⟨(abs_of_nonneg (not_lt.1 nonneg)).symm, rfl⟩

theorem absOp_frame (f : St0) (x : Long) :
    (absOp f x).2 = { f with v := (absOp f x).2.v, c := false, n := (absOp f x).2.n, z := (absOp f x).2.z } := by
  have frame := negSat_frame f x
  unfold absOp
  cases x.msb with
  | true =>
    rw [if_pos rfl]
    show setNZ { (negSat f x).2 with c := _ } _ = _
    rw [frame]
    rfl
  | false => rfl

/-- ABSTC is ABS, which neither reads nor writes TC. -/
theorem abstcOp_eq (f : St0) (x : Long) :
    (abstcOp f x).1 = (absOp f x).1 ∧ (abstcOp f x).2 = { (absOp f x).2 with tc := f.tc ^^ decide (x.toInt < 0) } := by
  have sign := msb_eq_decide x
  rw [← sign]
  unfold abstcOp absOp negSat
  cases x.msb with
  | false => exact ⟨rfl, rfl⟩
  | true =>
    simp only [if_true]
    by_cases least : x = minNeg 32
    · simp only [if_pos least]
      exact ⟨trivial, rfl⟩
    · simp only [if_neg least]
      exact ⟨trivial, rfl⟩

/-- Settles O35. -/
theorem negateAbsoluteSaturate : Obligations.NegateAbsoluteSaturate := by
  refine ⟨fun w f x width => ⟨fun h => ?_, fun h => ?_, ?_, fun pos => ?_, fun neg => ?_, fun zero => ?_, rfl, rfl, ?_⟩,
    fun f x => ⟨absOp_value f x, fun h => ?_, rfl, setNZ_n .., setNZ_z .., absOp_frame f x, abstcOp_eq f x⟩, fun f x => ?_⟩
  · unfold negOp
    rw [negSat_of_ne f x h]
    exact ⟨BitVec.toInt_neg_of_ne_intMin h, rfl⟩
  · subst h
    unfold negOp
    rw [negSat_intMin]
    exact ⟨rfl, rfl⟩
  · exact beq_zero_eq_decide ..
  · exact ⟨if_pos pos, by rw [satOp_v, ovc_ne_zero]; simp; omega⟩
  · exact ⟨by rw [satOp_value, if_neg (by omega), if_pos neg], by rw [satOp_v, ovc_ne_zero]; simp; omega⟩
  · exact ⟨by rw [satOp_value, if_neg (by omega), if_neg (by omega)], by rw [satOp_v, ovc_ne_zero]; simp [zero]⟩
  · simp only [List.forall_mem_cons]
    exact ⟨⟨setNZ_n .., setNZ_z .., negOp_frame f x⟩, ⟨setNZ_n .., setNZ_z .., rfl⟩, nofun⟩
  · subst h
    exact ⟨rfl, rfl⟩
  · have neg_value : (neg16 f x).1 = BitVec.ofInt 16 (-x.toInt) := by
      rw [BitVec.ofInt_neg, BitVec.ofInt_toInt]; rfl
    have most_neg : (x == 0x8000#16) = decide (x.toInt = -32768) := by
      rw [beq_eq_decide]
      exact decide_eq_decide.2 (by rw [← BitVec.toInt_inj]; rfl)
    have zero : (-x == 0#16) = decide (x.toNat = 0) := by
      rw [beq_eq_decide]
      exact decide_eq_decide.2 (BitVec.neg_eq_zero_iff.trans BitVec.toNat_eq)
    refine ⟨neg_value, ?_, zero, setNZ_n .., setNZ_z .., rfl⟩
    rw [← most_neg]
    rfl

/-! ## Stepwise division -/

/-- One more bit of the dividend: the next quotient bit and remainder. -/
theorem div_mod_double (m d b : Nat) (hd : 0 < d) (hb : b < 2) :
    (2 * m + b) / d = 2 * (m / d) + (decide (d ≤ 2 * (m % d) + b)).toNat ∧
      (2 * m + b) % d = if d ≤ 2 * (m % d) + b then 2 * (m % d) + b - d else 2 * (m % d) + b := by
  have lt := Nat.mod_lt m hd
  have whole := Nat.div_add_mod m d
  by_cases hit : d ≤ 2 * (m % d) + b
  · rw [if_pos hit, decide_eq_true hit]
    have sum : d * (2 * (m / d) + 1) = 2 * (d * (m / d)) + d := by ring
    exact (Nat.div_mod_unique hd).2 ⟨by rw [Bool.toNat_true, sum]; omega, by omega⟩
  · rw [if_neg hit, decide_eq_false hit]
    have sum : d * (2 * (m / d)) = 2 * (d * (m / d)) := by ring
    exact (Nat.div_mod_unique hd).2 ⟨by rw [Bool.toNat_false, add_zero, sum]; omega, by omega⟩

/-- A number with `j + 1` low bits split off, as one with `j`. -/
theorem split_next_bit (n j : Nat) :
    n / 2 ^ j = 2 * (n / 2 ^ (j + 1)) + n / 2 ^ j % 2 ∧
      n % 2 ^ (j + 1) = n / 2 ^ j % 2 * 2 ^ j + n % 2 ^ j := by
  constructor
  · rw [Nat.pow_succ, ← Nat.div_div_eq_div_mul]; omega
  · rw [Nat.pow_succ, Nat.mod_mul]; ring

/-- ACC after `k` of the `m` steps of a division of `n` by `d` in SUBCU: the remainder of the bits taken so far, the
bits still to take, and the quotient. -/
def divAcc (n d k j : Nat) : Nat := n / 2 ^ j % d * 65536 + n % 2 ^ j * 2 ^ k + n / 2 ^ j / d

/-- One SUBCU step: the dividend's next bit `b` joins the remainder, the quotient bit the low word (R251). -/
theorem subcuOp_step (f : St0) {acc : Long} {d : Word} {r b lo : Nat} (hr : r < d.toNat) (hb : b < 2) (hlo : lo < 65535)
    (h : 2 * acc.toNat = (2 * r + b) * 65536 + lo) :
    (subcuOp f acc d).1.toNat = (if d.toNat ≤ 2 * r + b then 2 * r + b - d.toNat else 2 * r + b) * 65536 + lo +
      (decide (d.toNat ≤ 2 * r + b)).toNat := by
  have := d.isLt
  have hit : d.toNat * 65536 ≤ 2 * acc.toNat ↔ d.toNat ≤ 2 * r + b := by omega
  unfold subcuOp
  simp only [hit]
  by_cases fits : d.toNat ≤ 2 * r + b
  · rw [decide_eq_true fits, if_pos rfl, if_pos fits, BitVec.toNat_ofNat, Bool.toNat_true]
    omega
  · rw [decide_eq_false fits, if_neg (by simp), if_neg fits, BitVec.toNat_shiftLeft, Nat.shiftLeft_eq, Bool.toNat_false]
    omega

/-- One SUBCU step takes the next bit of the dividend. -/
theorem subcuOp_divAcc (f : St0) {acc : Long} {n k j : Nat} {d : Word} (hd : 0 < d.toNat) (hkj : k + (j + 1) = 16)
    (hn : n < 65536) (h : acc.toNat = divAcc n d.toNat k (j + 1)) :
    (subcuOp f acc d).1.toNat = divAcc n d.toNat (k + 1) j := by
  obtain ⟨taken, left⟩ := split_next_bit n j
  have bit : n / 2 ^ j % 2 < 2 := Nat.mod_lt _ (by decide)
  have width : 2 ^ j * 2 ^ (k + 1) = 65536 := by rw [← pow_add, show j + (k + 1) = 16 by omega]; norm_num
  have small : n / 2 ^ (j + 1) < 2 ^ k := by
    rw [Nat.div_lt_iff_lt_mul (by positivity), ← pow_add, show k + (j + 1) = 16 by omega]; exact hn
  have low : n % 2 ^ j < 2 ^ j := Nat.mod_lt _ (by positivity)
  have quotient_le := Nat.div_le_self (n / 2 ^ (j + 1)) d.toNat
  generalize n / 2 ^ j % 2 = b at *
  obtain ⟨quotient, remainder⟩ := div_mod_double (n / 2 ^ (j + 1)) d.toNat b hd bit
  have room : n % 2 ^ j * 2 ^ (k + 1) + 2 ^ (k + 1) ≤ 65536 := by
    calc n % 2 ^ j * 2 ^ (k + 1) + 2 ^ (k + 1) = (n % 2 ^ j + 1) * 2 ^ (k + 1) := by ring
      _ ≤ 2 ^ j * 2 ^ (k + 1) := Nat.mul_le_mul_right _ low
      _ = 65536 := width
  have double : 2 ^ (k + 1) = 2 * 2 ^ k := by ring
  have shifted : 2 * acc.toNat = (2 * (n / 2 ^ (j + 1) % d.toNat) + b) * 65536 +
      (n % 2 ^ j * 2 ^ (k + 1) + 2 * (n / 2 ^ (j + 1) / d.toNat)) := by
    rw [h, divAcc, left, ← width, double]; ring
  rw [subcuOp_step f (Nat.mod_lt _ hd) bit (by omega) shifted, divAcc, taken, quotient, remainder]
  ring

/-- `k` SUBCU steps of the sixteen. -/
theorem subcu_iterate (f : St0) (n d : Word) (hd : 0 < d.toNat) (k : Nat) : ∀ j, k + j = 16 →
    ((fun r : Long × St0 => subcuOp r.2 r.1 d)^[k] (n.zeroExtend 32, f)).1.toNat = divAcc n.toNat d.toNat k j := by
  have := n.isLt
  induction k with
  | zero =>
    intro j hj
    obtain rfl : j = 16 := by omega
    have none_taken : n.toNat / 2 ^ 16 = 0 := Nat.div_eq_of_lt this
    rw [divAcc, none_taken, Nat.mod_eq_of_lt this]
    simp
    omega
  | succ k ih =>
    intro j hj
    rw [Function.iterate_succ_apply']
    exact subcuOp_divAcc _ hd (by omega) this (ih (j + 1) (by omega))

theorem subcuOp_zero (f : St0) {acc : Long} {m : Nat} (h : acc.toNat + 1 = m) (hm : m ≤ 2147483648) :
    (subcuOp f acc 0).1.toNat + 1 = 2 * m := by
  have value : (subcuOp f acc 0).1.toNat = (2 * acc.toNat + 1) % 2 ^ 32 := by simp [subcuOp]
  omega

/-- With the divisor 0 every step shifts in a 1. -/
theorem subcu_iterate_zero (f : St0) (n : Word) (k : Nat) (hk : k ≤ 16) :
    ((fun r : Long × St0 => subcuOp r.2 r.1 0)^[k] (n.zeroExtend 32, f)).1.toNat + 1 = (n.toNat + 1) * 2 ^ k := by
  induction k with
  | zero => simp; omega
  | succ k ih =>
    rw [Function.iterate_succ_apply']
    have bound : (n.toNat + 1) * 2 ^ k ≤ 65536 * 2 ^ 15 :=
      Nat.mul_le_mul (by have := n.isLt; omega) (Nat.pow_le_pow_right (by decide) (by omega))
    rw [subcuOp_zero _ (ih (by omega)) (by omega)]
    ring

/-- SUBCUL's P after `k` steps: the bits of the dividend still to take, and the quotient (R252). -/
def divP (n d k j : Nat) : Nat := n % 2 ^ j * 2 ^ k + n / 2 ^ j / d

/-- One SUBCUL step takes the next bit of the dividend. -/
theorem subculOp_div (f : St0) {acc p d : Long} {n k j : Nat} (hd : 0 < d.toNat) (hkj : k + (j + 1) = 32)
    (hn : n < 4294967296) (hacc : acc.toNat = n / 2 ^ (j + 1) % d.toNat) (hp : p.toNat = divP n d.toNat k (j + 1)) :
    (subculOp f acc p d).1.toNat = n / 2 ^ j % d.toNat ∧
      (subculOp f acc p d).2.1.toNat = divP n d.toNat (k + 1) j := by
  obtain ⟨taken, left⟩ := split_next_bit n j
  have bit : n / 2 ^ j % 2 < 2 := Nat.mod_lt _ (by decide)
  have width : 2 ^ j * 2 ^ (k + 1) = 4294967296 := by rw [← pow_add, show j + (k + 1) = 32 by omega]; norm_num
  have small : n / 2 ^ (j + 1) < 2 ^ k := by
    rw [Nat.div_lt_iff_lt_mul (by positivity), ← pow_add, show k + (j + 1) = 32 by omega]; exact hn
  have low : n % 2 ^ j < 2 ^ j := Nat.mod_lt _ (by positivity)
  have quotient_le := Nat.div_le_self (n / 2 ^ (j + 1)) d.toNat
  generalize n / 2 ^ j % 2 = b at *
  obtain ⟨quotient, remainder⟩ := div_mod_double (n / 2 ^ (j + 1)) d.toNat b hd bit
  have room : n % 2 ^ j * 2 ^ (k + 1) + 2 ^ (k + 1) ≤ 4294967296 := by
    calc n % 2 ^ j * 2 ^ (k + 1) + 2 ^ (k + 1) = (n % 2 ^ j + 1) * 2 ^ (k + 1) := by ring
      _ ≤ 2 ^ j * 2 ^ (k + 1) := Nat.mul_le_mul_right _ low
      _ = 4294967296 := width
  have double : 2 ^ (k + 1) = 2 * 2 ^ k := by ring
  have shifted : 2 * p.toNat = b * 4294967296 +
      (n % 2 ^ j * 2 ^ (k + 1) + 2 * (n / 2 ^ (j + 1) / d.toNat)) := by
    rw [hp, divP, left, ← width, double]; ring
  have top : p.msb.toNat = b := by rw [← toNat_eq_msb]; omega
  have rest := Nat.mod_lt (n / 2 ^ (j + 1)) hd
  have := d.isLt
  unfold subculOp
  simp only [hacc, top]
  constructor
  · rw [taken, remainder, BitVec.toNat_ofNat]
    by_cases fits : d.toNat ≤ 2 * (n / 2 ^ (j + 1) % d.toNat) + b
    · simp only [fits, decide_true, if_true]; omega
    · simp only [fits, decide_false, Bool.false_eq_true, if_false]; omega
  · rw [divP, taken, quotient, BitVec.toNat_add, BitVec.toNat_shiftLeft, Nat.shiftLeft_eq, BitVec.toNat_ofNat]
    have := (decide (d.toNat ≤ 2 * (n / 2 ^ (j + 1) % d.toNat) + b)).toNat_le
    omega

/-- `k` SUBCUL steps of the thirty-two. -/
theorem subcul_iterate (f : St0) (n d : Long) (hd : 0 < d.toNat) (k : Nat) : ∀ j, k + j = 32 →
    let r := (fun r : Long × Long × St0 => subculOp r.2.2 r.1 r.2.1 d)^[k] (0, n, f)
    r.1.toNat = n.toNat / 2 ^ j % d.toNat ∧ r.2.1.toNat = divP n.toNat d.toNat k j := by
  have := n.isLt
  induction k with
  | zero =>
    intro j hj
    obtain rfl : j = 32 := by omega
    have none_taken : n.toNat / 2 ^ 32 = 0 := Nat.div_eq_of_lt this
    rw [divP, none_taken, Nat.mod_eq_of_lt this]
    simp
  | succ k ih =>
    intro j hj
    rw [Function.iterate_succ_apply']
    obtain ⟨acc, p⟩ := ih (j + 1) (by omega)
    exact subculOp_div _ hd (by omega) this acc p

/-! ## The count of sign bits -/

theorem signRun_le (x : Long) (k : Nat) : signRun x k ≤ k := by
  induction k with
  | zero => exact Nat.le_refl _
  | succ k ih => unfold signRun; split <;> omega

/-- The bits counted equal the sign. -/
theorem getLsbD_of_signRun (x : Long) (k : Nat) : ∀ j < k, k - signRun x k ≤ j → x.getLsbD j = x.msb := by
  induction k with
  | zero => intro j hj; omega
  | succ k ih =>
    intro j hj low
    have := signRun_le x k
    unfold signRun at low
    split at low
    · rcases Nat.lt_succ_iff_lt_or_eq.1 hj with lt | rfl
      · exact ih j lt (by omega)
      · assumption
    · omega

/-- The bit below them does not. -/
theorem getLsbD_below_signRun (x : Long) (k : Nat) (h : signRun x k < k) : x.getLsbD (k - 1 - signRun x k) ≠ x.msb := by
  induction k with
  | zero => omega
  | succ k ih =>
    unfold signRun at h ⊢
    split
    · rename_i same
      rw [if_pos same] at h
      have below := ih (by omega)
      rwa [show k + 1 - 1 - (signRun x k + 1) = k - 1 - signRun x k by omega]
    · simpa

theorem signBits_le (x : Long) : signBits x ≤ 31 := signRun_le x 31

/-- From bit `31 - signBits` up every bit is the sign. -/
theorem getLsbD_of_signBits (x : Long) {j : Nat} (low : 31 - signBits x ≤ j) (hj : j < 32) : x.getLsbD j = x.msb := by
  rcases Nat.lt_succ_iff_lt_or_eq.1 hj with lt | rfl
  · exact getLsbD_of_signRun x 31 j lt low
  · exact (BitVec.msb_eq_getLsbD_last x).symm

/-- Shifted out and back, the sign bits are filled in again. -/
theorem shift_signBits (x : Long) : (x <<< signBits x).sshiftRight (signBits x) = x := by
  have le := signBits_le x
  have msb : (x <<< signBits x).msb = x.msb := by
    rw [BitVec.msb_eq_getLsbD_last, BitVec.getLsbD_shiftLeft]
    simp only [show ¬ 32 - 1 < signBits x by omega, decide_false, Bool.not_false, Bool.and_true]
    exact getLsbD_of_signBits x (by omega) (by omega)
  apply BitVec.eq_of_getLsbD_eq
  intro i hi
  rw [BitVec.getLsbD_sshiftRight, msb, BitVec.getLsbD_shiftLeft]
  by_cases inside : signBits x + i < 32
  · simp [inside, hi]
  · rw [getLsbD_of_signBits x (by omega) hi]
    simp [inside, hi]

/-- Settles O36: the divisions at their last step, the count by `getLsbD_of_signBits` and `getLsbD_below_signRun`. -/
theorem stepwiseDivisionAndSignCount : Obligations.StepwiseDivisionAndSignCount := by
  refine ⟨fun f n d hd => ?_, fun f n => ?_, fun f n d hd => ?_, fun x => ⟨signBits_le x, shift_signBits x, fun lt => ?_, ?_⟩⟩
  · have pos : 0 < d.toNat := Nat.pos_of_ne_zero fun h => hd (BitVec.eq_of_toNat_eq h)
    apply BitVec.eq_of_toNat_eq
    rw [subcu_iterate f n d pos 16 0 rfl, longOf_toNat, BitVec.toNat_umod, BitVec.toNat_udiv, divAcc]
    simp [Nat.mod_one]
  · have ones := subcu_iterate_zero f n 16 (by decide)
    apply BitVec.eq_of_toNat_eq
    rw [lowWord_toNat]
    show _ = 65535
    omega
  · have pos : 0 < d.toNat := Nat.pos_of_ne_zero fun h => hd (BitVec.eq_of_toNat_eq h)
    obtain ⟨acc, p⟩ := subcul_iterate f n d pos 32 0 rfl
    constructor
    · apply BitVec.eq_of_toNat_eq
      rw [BitVec.toNat_umod]
      simpa using acc
    · apply BitVec.eq_of_toNat_eq
      rw [BitVec.toNat_udiv]
      simpa [divP, Nat.mod_one] using p
  · have top := getLsbD_of_signBits x (j := 31 - signBits x) (by omega) (by omega)
    have below := getLsbD_below_signRun x 31 lt
    rw [BitVec.getLsbD_shiftLeft, BitVec.getLsbD_shiftLeft]
    have := signBits_le x
    simp only [show ¬ 31 < signBits x by omega, show ¬ 30 < signBits x by omega, decide_false, Bool.not_false,
      Bool.and_true]
    rw [top]
    exact fun h => below h.symm
  · constructor
    · intro all
      have same (j : Nat) (hj : j < 32) : x.getLsbD j = x.msb := getLsbD_of_signBits x (by omega) hj
      cases hm : x.msb with
      | false => exact .inl (BitVec.eq_of_getLsbD_eq fun j hj => by rw [same j hj, hm]; simp)
      | true =>
        refine .inr (BitVec.eq_of_getLsbD_eq fun j hj => ?_)
        rw [same j hj, hm, show (0xFFFFFFFF : Long) = BitVec.allOnes 32 from rfl, BitVec.getLsbD_allOnes]
        simp [hj]
    · rintro (rfl | rfl) <;> decide

end Sys2Proof.Machine
end

section
-- One proof at a time: elaborated side by side, the proofs of the joined text need more memory than a check has.
set_option Elab.async false
/-! PROOFS. The results of the instructions that read an operand, or none, and change registers (O37 to O39, O41 to
O44, O46, O47, O51, O52): the shape of the instruction is run by its law, and the two states agree by computation. -/

open Sys2Proof Sys2Proof.Machine

namespace Sys2Proof.Machine

/-! ## Counts -/

theorem extract_t (s : State) (k : Nat) : (s.t.extractLsb' 0 k).toNat = s.xt.toNat / 65536 % 2 ^ k := by
  have upper : s.t = highWord s.xt := rfl
  rw [upper, BitVec.extractLsb'_toNat, highWord_toNat, Nat.shiftRight_zero]

theorem count4_t (s : State) : count4 s.t = s.xt.toNat / 65536 % 16 := extract_t s 4

theorem count5_t (s : State) : count5 s.t = s.xt.toNat / 65536 % 32 := extract_t s 5

theorem count6_t (s : State) : count6 s.t = s.xt.toNat / 65536 % 64 := extract_t s 6

/-! ## Operands of ACC -/

theorem ext16_eq (f : St0) (v : Word) : ext16 f v = if f.sxm then v.signExtend 32 else v.zeroExtend 32 := rfl

theorem shifted16_eq (f : St0) (v : Word) (k : Nat) : shifted16 f v k = ext16 f v <<< k := rfl

theorem shifted16_zero (f : St0) (v : Word) : shifted16 f v 0 = ext16 f v := BitVec.shiftLeft_zero _

/-- A load of ACC with N and Z, for any value: no shift is computed. -/
theorem moveAcc_next (t : State) (y : Long) (len : ProgAddr) :
    (.next ((t.moveAcc y).advance len) : Host.Outcome State Fault Refusal) =
      accNext t len (y, { t.st0 with n := y.msb, z := y == 0 }) := rfl

/-! ## One step of a division -/

theorem subculOp_fits (f : St0) {acc p v : Long} (fits : (0 : Int) ≤ 2 * acc.toNat + p.msb.toNat - v.toNat) :
    let r := BitVec.ofInt 32 (2 * acc.toNat + p.msb.toNat - v.toNat)
    subculOp f acc p v = (r, p <<< 1 + 1, { f with c := true, n := r.msb, z := r == 0 }) := by
  intro r
  have le : v.toNat ≤ 2 * acc.toNat + p.msb.toNat := by omega
  have rest : BitVec.ofNat 32 (2 * acc.toNat + p.msb.toNat - v.toNat) = r := by
    rw [← BitVec.ofInt_natCast]
    congr 1
    omega
  unfold subculOp
  simp only [le, decide_true, if_true, rest]
  rfl

theorem subculOp_less (f : St0) {acc p v : Long} (less : (2 * acc.toNat + p.msb.toNat - v.toNat : Int) < 0) :
    let r := acc <<< 1 + p >>> 31
    subculOp f acc p v = (r, p <<< 1, { f with c := false, n := r.msb, z := r == 0 }) := by
  intro r
  have lt : ¬ v.toNat ≤ 2 * acc.toNat + p.msb.toNat := by omega
  have shifted : BitVec.ofNat 32 (2 * acc.toNat + p.msb.toNat) = r := by
    apply BitVec.eq_of_toNat_eq
    rw [BitVec.toNat_ofNat, BitVec.toNat_add, BitVec.toNat_shiftLeft, BitVec.toNat_ushiftRight, Nat.shiftLeft_eq,
      Nat.shiftRight_eq_div_pow, ← toNat_eq_msb p]
    omega
  unfold subculOp
  simp only [lt, decide_false, Bool.false_eq_true, if_false, shifted, Bool.toNat_false,
    BitVec.ofNat_eq_ofNat, BitVec.add_zero]
  rfl

theorem subcuOp_fits (f : St0) {acc : Long} {v : Word} (fits : (0 : Int) ≤ 2 * acc.toNat - v.toNat * 2 ^ 16) :
    let r := BitVec.ofInt 32 (2 * acc.toNat - v.toNat * 2 ^ 16 + 1)
    subcuOp f acc v = (r, { f with c := true, n := r.msb, z := r == 0 }) := by
  intro r
  have le : v.toNat * 65536 ≤ 2 * acc.toNat := by omega
  have rest : BitVec.ofNat 32 (2 * acc.toNat - v.toNat * 65536 + 1) = r := by
    rw [← BitVec.ofInt_natCast]
    congr 1
    omega
  unfold subcuOp
  simp only [le, decide_true, if_true, rest]
  rfl

theorem subcuOp_less (f : St0) {acc : Long} {v : Word} (less : (2 * acc.toNat - v.toNat * 2 ^ 16 : Int) < 0) :
    let r := acc <<< 1
    subcuOp f acc v = (r, { f with c := false, n := r.msb, z := r == 0 }) := by
  intro r
  have lt : ¬ v.toNat * 65536 ≤ 2 * acc.toNat := by omega
  unfold subcuOp
  simp only [lt, decide_false, Bool.false_eq_true, if_false]
  rfl

/-! ## Words as numbers -/

theorem beq_eq_decide_toNat {w : Nat} (x y : BitVec w) : (x == y) = decide (x.toNat = y.toNat) := by
  rw [Bool.eq_iff_iff, beq_iff_eq, decide_eq_true_iff, BitVec.toNat_inj]

/-! ## Named status bits -/

theorem set_eq_or (m x : Bool) : (if m then true else x) = (x || m) := by cases m <;> cases x <;> rfl

theorem clear_eq_and (m x : Bool) : (if m then false else x) = (x && !m) := by cases m <;> cases x <;> rfl

/-! ## NORM -/

theorem State.norm_stay {s : State} (f : State → State) (h : s.acc = 0 ∨ s.acc.getLsbD 31 ≠ s.acc.getLsbD 30) :
    s.norm f = { s with st0 := setNZ { s.st0 with tc := true } s.acc } := if_pos h

theorem State.norm_move {s : State} (f : State → State) (h : s.acc ≠ 0) (h' : s.acc.getLsbD 31 = s.acc.getLsbD 30) :
    s.norm f = { f s with acc := s.acc <<< 1, st0 := setNZ { s.st0 with tc := false } (s.acc <<< 1) } :=
  if_neg (not_or.2 ⟨h, not_not.2 h'⟩)

/-! ## Loops -/

theorem loopnz_next {s t : State} {loc : Loc} {v : Word} (c : BitVec 16) (h : Reads16 s loc v t) :
    execLoopnz loc c s = .next (t.loopStep (v &&& c) (v &&& c != 0)) := by
  rw [execLoopnz, withLoc_run h.1, h.2]
  rfl

theorem loopz_next {s t : State} {loc : Loc} {v : Word} (c : BitVec 16) (h : Reads16 s loc v t) :
    execLoopz loc c s = .next (t.loopStep (v &&& c) (v &&& c == 0)) := by
  rw [execLoopz, withLoc_run h.1, h.2]
  rfl

theorem loopStep_congr (t : State) (m : Word) {x y : Bool} (h : x = y) :
    (.next (t.loopStep m x) : Host.Outcome State Fault Refusal) = .next (t.loopStep m y) := by rw [h]

end Sys2Proof.Machine

/-- Settles O38: with shift 0 the operand is not shifted. -/
theorem accAddSubWordResults : Obligations.AccAddSubWordResults := by
  intro s t loc v sh h
  simp only [exec, ← ext16_eq, ← count4_t]
  refine ⟨?add, ?_, ?add16, ?_, ?_, ?_, ?sub, ?_, ?sub16, ?_, ?_, ?_⟩
  case add | sub => rw [← shifted16_zero]; exact reading16_next h
  case add16 => rw [execAddAccLoc16Shl16, reading16_next h]; rfl
  case sub16 => rw [execSubAccLoc16Shl16, reading16_next h]; rfl
  all_goals exact reading16_next h

/-- Settles O39: SUBCUL by whether the divisor fits in ACC:P shifted left. -/
theorem accLongResults : Obligations.AccLongResults := by
  intro s t loc v h g d
  simp only [exec]
  refine ⟨?_, ?_, ?_, ?_, ?_, ?_, ?_, ?_, ?_, ?_, ?_, fun fits => ?fits, fun less => ?less⟩
  case fits => rw [execSubcul, reading32_next h, subculOp_fits t.st0 fits]; rfl
  case less => rw [execSubcul, reading32_next h, subculOp_less t.st0 less]; rfl
  all_goals exact reading32_next h

/-- Settles O43: SUBCU by whether the divisor fits in ACC shifted left. -/
theorem wordOperandResults : Obligations.WordOperandResults := by
  intro s t loc v ax c h a g d
  simp only [exec]
  refine ⟨?_, ?_, ?_, ?_, ?_, ?_, fun fits => ?fits, fun less => ?less⟩
  case fits => rw [execSubcu, reading16_next h, subcuOp_fits t.st0 fits]; rfl
  case less => rw [execSubcu, reading16_next h, subcuOp_less t.st0 less]; rfl
  all_goals cases ax <;> exact reading16_next h

/-- Settles O47, by the shape of the reading instructions. -/
theorem wordMultiplyResults : Obligations.WordMultiplyResults := by
  intro s t loc v c h
  simp only [exec]
  and_intros <;> exact reading16_next h

/-- Settles O51, by the shape of the reading instructions. -/
theorem longMultiplyResults : Obligations.LongMultiplyResults := by
  intro s t loc v h
  simp only [exec]
  and_intros <;> exact reading32_next h

/-- Settles O52: a loop goes on or ends by its masked value. -/
theorem wordLoadAndLoopResults : Obligations.WordLoadAndLoopResults := by
  intro s t loc v c sh b n h
  simp only [exec, execMovAccLoc16, execMovAccLoc16Shl, execMovAccLoc16Shl16, execMovAccLoc16ShlT, execMovOvcLoc16,
    execMovuOvcLoc16, execTbitImm, execTbitT, execMovArx, execMovIerLoc16, execRptLoc16, reading16_next h,
    moveAcc_next, loopnz_next c h, loopz_next c h, shifted16_eq, BitVec.shiftLeft_zero, ← ext16_eq, ← count4_t,
    true_and]
  refine ⟨rfl, rfl, rfl, rfl, rfl, rfl, rfl, fun again => ?_, fun done => ?_⟩
  · exact ⟨loopStep_congr t _ (bne_iff_ne.2 again), loopStep_congr t _ (beq_false_of_ne again)⟩
  · exact ⟨loopStep_congr t _ (bne_eq_false_iff_eq.2 done), loopStep_congr t _ (beq_iff_eq.2 done)⟩

/-- Settles O37: ASP and NASP by the parity of SP and by SPA. -/
theorem modeAndRegisterResults : Obligations.ModeAndRegisterResults := by
  intro s n k c
  have bit : s.sp.getLsbD 0 = decide (s.sp.toNat % 2 = 1) := Nat.testBit_zero _
  refine ⟨fun c => ?set, fun c => ?clear, rfl, rfl, rfl, rfl, rfl, rfl, rfl, rfl, fun odd => ?asp, fun even => ?asp',
    fun spa => ?nasp, fun spa => ?nasp', rfl, fun _ => rfl, rfl, rfl, rfl, rfl, rfl, rfl, rfl, rfl, rfl, rfl, rfl⟩
  case set =>
    simp only [← set_eq_or]
    rfl
  case clear =>
    simp only [← clear_eq_and]
    rfl
  case asp =>
    simp only [exec, execAsp, bit, odd]
    rfl
  case asp' =>
    simp only [exec, execAsp, bit, even]
    rfl
  case nasp =>
    simp only [exec, execNasp, spa]
    rfl
  case nasp' =>
    have kept : { s.st1 with spa := false } = s.st1 := by rw [← spa]
    simp only [exec, execNasp, kept, spa]
    rfl

/-- Settles O41: the field of the three `loc` spellings is `@T`. -/
theorem accConstantAndProductResults : Obligations.AccConstantAndProductResults := by
  intro s sh c k
  refine ⟨rfl, rfl, rfl, rfl, rfl, rfl, fun runs => ?_⟩
  have mode : s.locMode locT = .reg .t := locMode_of_fixed (by decide) s
  have run : locTraps .word locT s = false := locTraps_false runs (by rw [mode]; decide)
  simp only [exec]
  exact ⟨withLoc_run run, withLoc_run run, withLoc_run run⟩

/-- Settles O42: NORM by what bits 31 and 30 and the value of ACC say. -/
theorem accUnaryAndNormResults : Obligations.AccUnaryAndNormResults := by
  intro s n
  refine ⟨rfl, rfl, rfl, fun tc => ?_, fun tc => ?_, rfl, rfl, rfl, rfl, rfl, rfl, fun done => ?_, fun nonzero same => ?_⟩
  · rw [exec, execNegtcAcc, if_pos tc]
    rfl
  · rw [exec, execNegtcAcc, if_neg (Bool.eq_false_iff.1 tc)]
    rfl
  · simp only [exec, execNormXarInc, execNormXarDec, execNormInd, execNormIndInc, execNormIndDec, execNormInd0Inc,
      execNormInd0Dec, State.norm_stay _ done]
    and_intros <;> rfl
  · simp only [exec, execNormXarInc, execNormXarDec, execNormInd, execNormIndInc, execNormIndDec, execNormInd0Inc,
      execNormInd0Dec, State.norm_move _ nonzero same, BitVec.sub_eq_add_neg]
    and_intros <;> rfl

/-- Settles O44: two words are equal where their numbers are. -/
theorem axAndCmprResults : Obligations.AxAndCmprResults := by
  intro s ax k x y
  have same : (s.arOf s.st1.arp == s.ar0) = decide (x = y) := beq_eq_decide_toNat ..
  simp only [exec, execCmpr0, execCmpr3, bne, same]
  refine ⟨?add, rfl, ?neg, rfl, rfl, rfl, ?_, rfl, rfl⟩
  case add | neg => cases ax <;> rfl
  · rw [decide_not]
    rfl

/-- Settles O46: SFR shifts by the rule SXM selects. -/
theorem shiftResults : Obligations.ShiftResults := by
  intro s sh ax
  simp only [exec, ← count4_t, ← count5_t, ← count6_t]
  refine ⟨rfl, rfl, rfl, fun sxm => ?signed, fun sxm => ?unsigned, ?rest⟩
  case rest => cases ax <;> and_intros <;> rfl
  case signed | unsigned =>
    simp only [execSfrAccImm, execSfrAccT, sfr, sxm]
    exact ⟨rfl, rfl⟩

end

section
-- One proof at a time: elaborated side by side, the proofs of the joined text need more memory than a check has.
set_option Elab.async false
/-! PROOFS. The results of the instructions that store, push and pop, and of the branches, calls and returns (O40, O45,
O53 to O56, O59, O60). -/

open Sys2Proof Sys2Proof.Machine

namespace Sys2Proof.Machine

/-! ## Conditions -/

/-- A condition that tests V clears it. -/
theorem condFlags_eq (f : St0) (c : Cond) :
    condFlags f c = { f with v := f.v && decide (c ≠ .nov) && decide (c ≠ .ov) } := by
  cases c <;> simp [condFlags]

section
variable {s t : State} {loc : Loc} {pl : Place} {c : Cond}

theorem condStore16_true {v : Word} (hc : c ≠ .nbio) (h : Selects .word s loc pl t) (holds : condHolds s.st0 c = true)
    (ho : pl.Open16 t) :
    ∃ u, Stored16 { t with st0 := condFlags s.st0 c } pl v u ∧ condStore16 c loc s v = .next (u.advance 2) := by
  obtain ⟨u, hu, stored⟩ := writePlace16_stored v ((Place.Open16_st0 t (condFlags s.st0 c) pl).2 ho)
  refine ⟨u, stored, ?_⟩
  rw [condStore16, withLoc_run h.1, condKnown_ok hc, h.2]
  simp only [Res.ok_bind, holds, if_true, hu, Res.pure_eq, Res.toOutcome_ok]

theorem condStore16_false {v : Word} (hc : c ≠ .nbio) (h : Selects .word s loc pl t)
    (fails : condHolds s.st0 c = false) :
    condStore16 c loc s v = .next ({ t with st0 := condFlags s.st0 c }.advance 2) := by
  rw [condStore16, withLoc_run h.1, condKnown_ok hc, h.2]
  simp only [Res.ok_bind, fails, Bool.false_eq_true, if_false, Res.pure_eq, Res.toOutcome_ok]

theorem condStore32_true (hc : c ≠ .nbio) (h : Selects .long s loc pl t) (holds : condHolds s.st0 c = true)
    (ho : pl.Open32 t) :
    ∃ u, Stored32 { t with st0 := condFlags s.st0 c } pl s.acc u ∧
      execMovlLoc32AccCond c loc s = .next (u.advance 2) := by
  obtain ⟨u, hu, stored⟩ := writePlace32_stored s.acc ((Place.Open32_st0 t (condFlags s.st0 c) pl).2 ho)
  refine ⟨u, stored, ?_⟩
  rw [execMovlLoc32AccCond, withLoc_run h.1, condKnown_ok hc, h.2]
  simp only [Res.ok_bind, holds, if_true, hu, Res.pure_eq, Res.toOutcome_ok]

theorem condStore32_false (hc : c ≠ .nbio) (h : Selects .long s loc pl t) (fails : condHolds s.st0 c = false) :
    execMovlLoc32AccCond c loc s = .next ({ t with st0 := condFlags s.st0 c }.advance 2) := by
  rw [execMovlLoc32AccCond, withLoc_run h.1, condKnown_ok hc, h.2]
  simp only [Res.ok_bind, fails, Bool.false_eq_true, if_false, Res.pure_eq, Res.toOutcome_ok]

theorem condBranch_next (hc : c ≠ .nbio) (len target : ProgAddr) (s : State) :
    condBranch c len target s =
      .next { s with st0 := condFlags s.st0 c, pc := if condHolds s.st0 c then target else s.pc + len } := by
  rw [condBranch, condKnown_ok hc]
  rfl

end

/-! ## Branches on registers -/

theorem State.branchIf_not (s : State) (b : Bool) (len target : ProgAddr) :
    s.branchIf (!b) len target = { s with pc := if b then s.pc + len else target } := by cases b <;> rfl

theorem State.branchIf_beq (s : State) (x y : Word) (len target : ProgAddr) :
    s.branchIf (x == y) len target = { s with pc := if x = y then target else s.pc + len } := by
  simp only [State.branchIf, beq_iff_eq]

theorem State.branchIf_bne (s : State) (x y : Word) (len target : ProgAddr) :
    s.branchIf (x != y) len target = { s with pc := if x = y then s.pc + len else target } := by
  simp only [State.branchIf, bne_iff_ne, ne_eq, ite_not]

/-! ## The stack -/

section
variable {s : State}

theorem push16_stored (v : Word) (ho : Place.Open16 s (.mem s.spAddr)) :
    ∃ u, Stored16 s (.mem s.spAddr) v u ∧ push16 s v = .ok { u with sp := s.sp + 1 } := by
  obtain ⟨u, hu, stored⟩ := writePlace16_stored v ho
  refine ⟨u, stored, ?_⟩
  have sp : u.sp = s.sp := by rw [stored.1]
  rw [← sp, push16, show writeData s s.spAddr v = .ok u from hu]
  rfl

theorem push32_stored (v : Long) (ho : Place.Open32 s (.mem s.spAddr)) :
    ∃ u, Stored32 s (.mem s.spAddr) v u ∧ push32 s v = .ok { u with sp := s.sp + 2 } := by
  obtain ⟨u, hu, stored⟩ := writePlace32_stored v ho
  refine ⟨u, stored, ?_⟩
  have sp : u.sp = s.sp := by rw [stored.1]
  rw [← sp, push32, show writeData32 s s.spAddr v = .ok u from hu]
  rfl

/-- A store through data space closes no word to the next one. -/
theorem Stored16.open_above {s u : State} {a b : DataAddr} {v p : Word} (stored : Stored16 s (.mem a) v u)
    (ho : Place.Open16 s (.mem b)) : Place.Open16 { u with sp := p } (.mem b) := by
  have marked : { u with sp := p } = { s with mem := u.mem, stores := s.mark a.toNat false, sp := p } :=
    congrArg (fun x : State => { x with sp := p }) stored.1
  rw [marked]
  exact ⟨ho.1, Bool.eq_false_iff.2 fun clash =>
    Bool.eq_false_iff.1 ho.2 (State.unorderedWrite_mark s u.mem a.toNat b.toNat false false (.inr rfl) clash)⟩

theorem pushing16_stored (v : Word) (ho : Place.Open16 s (.mem s.spAddr)) :
    ∃ u, Stored16 s (.mem s.spAddr) v u ∧ pushing16 s v = .ok { u with sp := s.sp + 1, pc := s.pc + 1 } := by
  obtain ⟨u, stored, pushed⟩ := push16_stored v ho
  have pc : u.pc = s.pc := by rw [stored.1]
  refine ⟨u, stored, ?_⟩
  rw [pushing16, pushed, ← pc]
  rfl

theorem pushing32_stored (v : Long) (ho : Place.Open32 s (.mem s.spAddr)) :
    ∃ u, Stored32 s (.mem s.spAddr) v u ∧ pushing32 s v = .ok { u with sp := s.sp + 2, pc := s.pc + 1 } := by
  obtain ⟨u, stored, pushed⟩ := push32_stored v ho
  have pc : u.pc = s.pc := by rw [stored.1]
  refine ⟨u, stored, ?_⟩
  rw [pushing32, pushed, ← pc]
  rfl

theorem popping16_ok {v : Word} (f : Word → State → State)
    (h : readData { s with sp := s.sp - 1 } ((s.sp - 1).zeroExtend 32) = .ok v) :
    popping16 s f = .ok ((f v { s with sp := s.sp - 1 }).advance 1) := by
  rw [popping16, (pop16_ok_iff ..).2 ⟨rfl, h⟩]
  rfl

theorem popping32_ok {v : Long} (f : Long → State → State)
    (h : readData32 { s with sp := s.sp - 2 } ((s.sp - 2).zeroExtend 32) = .ok v) :
    popping32 s f = .ok ((f v { s with sp := s.sp - 2 }).advance 1) := by
  rw [popping32, (pop32_ok_iff ..).2 ⟨rfl, h⟩]
  rfl

/-- The spellings of the stack instructions that are `loc` encodings run where a `loc` field does not trap. -/
theorem stack_run (w : Width) {loc : Loc} (hl : loc = locPush ∨ loc = locPop)
    (runs : ¬ (s.st1.page0 = true ∧ s.st1.amode = true)) (body : Res State) :
    withLoc w loc s body = body.toOutcome := by
  refine withLoc_run (locTraps_false runs ?_)
  rcases hl with rfl | rfl
  · rw [locMode_of_fixed (m := .mem .spInc) (by decide)]; decide
  · rw [locMode_of_fixed (m := .mem .spDec) (by decide)]; decide

end

end Sys2Proof.Machine

/-- Settles O40: each updates its operand by the function that gives `r` at the value read. -/
theorem longDestinationResults : Obligations.LongDestinationResults := by
  intro s t loc pl v h hv ho i r hi
  have shape : ∃ f, exec i s = updating32 2 loc s f ∧ f v = r := by
    obtain ⟨rfl, rfl⟩ | ⟨rfl, rfl⟩ | ⟨rfl, rfl⟩ := hi <;> exact ⟨_, rfl, rfl⟩
  obtain ⟨f, shape, rfl⟩ := shape
  rw [shape]
  exact updating32_next h hv ho

/-- Settles O45: each updates its operand by the function that gives `r` at the value read. -/
theorem wordUpdateResults : Obligations.WordUpdateResults := by
  intro s t loc pl v h hv ho i len r hi
  have shape : ∃ f, exec i s = updating16 len loc s f ∧ f v = r := by
    obtain ⟨ax, rfl, rfl, rfl⟩ | ⟨c, rfl, rfl, rfl⟩ | ⟨ax, rfl, rfl, rfl⟩ | ⟨ax, rfl, rfl, rfl⟩ | ⟨rfl, rfl, rfl⟩ |
      ⟨rfl, rfl, rfl⟩ | ⟨b, rfl, rfl, rfl⟩ | ⟨b, rfl, rfl, rfl⟩ := hi <;> exact ⟨_, rfl, rfl⟩
  obtain ⟨f, shape, rfl⟩ := shape
  rw [shape]
  exact updating16_next h hv ho

/-- Settles O53: each stores `v` in its operand. -/
theorem wordStoreResults : Obligations.WordStoreResults := by
  intro s t loc pl h ho i len v hi
  have shape : exec i s = storing16 len loc s v := by
    obtain ⟨rfl, rfl, rfl⟩ | ⟨sh, rfl, rfl, rfl⟩ | ⟨rfl, rfl, rfl⟩ | ⟨sh, rfl, rfl, rfl⟩ | ⟨rfl, rfl, rfl⟩ |
      ⟨rfl, rfl, rfl⟩ | ⟨rfl, rfl, rfl⟩ := hi <;> rfl
  rw [shape]
  exact storing16_next h ho

/-- Settles O54: both outcomes of the condition, for each width. -/
theorem conditionalMoveResults : Obligations.ConditionalMoveResults := by
  intro s t loc pl cond hc f
  have flags : condFlags s.st0 cond = f := condFlags_eq ..
  refine ⟨fun h i v hi => ?_, fun h => ⟨fun holds ho => ?_, fun fails => ?_⟩⟩
  · have shape : exec i s = condStore16 cond loc s v := by
      obtain ⟨ax, rfl, rfl⟩ | ⟨k, rfl, rfl⟩ := hi <;> rfl
    rw [shape, ← flags]
    exact ⟨fun holds ho => condStore16_true hc h holds ho, fun fails => condStore16_false hc h fails⟩
  · rw [← flags]
    exact condStore32_true hc h holds ho
  · rw [← flags]
    exact condStore32_false hc h fails

/-- Settles O55: each push is `pushing16` or `pushing32` of its register. -/
theorem pushResults : Obligations.PushResults := by
  intro s i runs
  refine ⟨fun v ho hi => ?_, fun v ho hi => ?_⟩
  · obtain ⟨u, stored, pushed⟩ := pushing16_stored v ho
    have shape : exec i s = (pushing16 s v).toOutcome := by
      obtain ⟨rfl, rfl⟩ | ⟨rfl, rfl⟩ | ⟨rfl, rfl⟩ | ⟨rfl, rfl⟩ | ⟨hr, rfl, rfl⟩ := hi
      case inr.inr.inr.inr => exact stack_run .word (.inl rfl) hr _
      all_goals rfl
    exact ⟨u, stored, by rw [shape, pushed]; rfl⟩
  · obtain ⟨u, stored, pushed⟩ := pushing32_stored v ho
    have shape : exec i s = (pushing32 s v).toOutcome := by
      obtain ⟨rfl, rfl⟩ | ⟨hr, hi⟩ := hi
      · rfl
      · obtain ⟨rfl, rfl⟩ | ⟨rfl, rfl⟩ | ⟨rfl, rfl⟩ | ⟨rfl, rfl⟩ | ⟨rfl, rfl⟩ | ⟨rfl, rfl⟩ | ⟨rfl, rfl⟩ | ⟨rfl, rfl⟩ |
          ⟨rfl, rfl⟩ := hi <;> exact stack_run .long (.inl rfl) hr _
    exact ⟨u, stored, by rw [shape, pushed]; rfl⟩

/-- Settles O56: each pop is `popping16` or `popping32` into its register. -/
theorem popResults : Obligations.PopResults := by
  intro s
  constructor
  · intro v h
    simp only [exec, execPopDbgier, execPopSt0, execPopSt1, popping16_ok _ h]
    exact ⟨rfl, rfl, rfl⟩
  intro v h r
  refine ⟨?_, fun runs => ?_⟩
  · simp only [exec, execPopAr1hAr0h, popping32_ok _ h]
    rfl
  · simp only [exec, execPopXar0, execPopXar1, execPopXar2, execPopXar3, execPopXar4, execPopXar5, execPopXar6,
      execPopXar7, execPopXt, popXar, stack_run .long (.inr rfl) runs, popping32_ok _ h]
    and_intros <;> rfl

/-- Settles O59: the test, then the move of the register. -/
theorem branchResults : Obligations.BranchResults := by
  intro s cond c k n m hc f h far near top ar cur go live
  have flags : condFlags s.st0 cond = f := condFlags_eq ..
  have test : (s.arOf s.st1.arp != 0) = live := by
    rw [Bool.eq_iff_iff, bne_iff_ne, decide_eq_true_iff]
    rfl
  have conditional (len target : ProgAddr) : condBranch cond len target s =
      .next { s with st0 := f, pc := if h then target else s.pc + len } := by rw [condBranch_next hc, flags]
  refine ⟨conditional .., conditional .., conditional .., conditional .., rfl, ?_, rfl, ?_, ?_, ?_, ?_, ?_, ?_, ?_, ?_, ?_⟩
  case refine_1 | refine_2 =>
    simp only [exec, execSbfNeq, execSbfNtc, State.branchIf_not]
    rfl
  case refine_3 | refine_4 | refine_5 =>
    simp only [exec, execBanz, execBarEq, execBarNeq, State.branchIf_beq, State.branchIf_bne]
    rfl
  all_goals
    simp only [exec, execXbanzInd, execXbanzIndInc, execXbanzIndDec, execXbanzInd0Inc, execXbanzInd0Dec, State.xbanz,
      test, go, BitVec.sub_eq_add_neg]
    rfl

/-- Settles O60: what the pushes leave and the pops read. -/
theorem callReturnResults : Obligations.CallReturnResults := by
  intro s cond c d hc f at0 at1
  have flags : condFlags s.st0 cond = f := condFlags_eq ..
  refine ⟨fun holds ho => ?_, fun fails => ?_, fun v holds hv => ?_, fun fails => ?_, fun ho ho' => ?_, fun hi lo hhi hlo => ?_⟩
  · obtain ⟨u, stored, pushed⟩ := push16_stored ((s.pc + 2).extractLsb' 0 16) ((Place.Open16_st0 s f at0).2 ho)
    refine ⟨u, stored, ?_⟩
    rw [exec, execXcall, condKnown_ok hc, flags]
    simp only [Res.ok_bind, holds, if_true, pushed]
    rfl
  · rw [exec, execXcall, condKnown_ok hc, flags]
    simp only [Res.ok_bind, fails]
    rfl
  · rw [exec, execXretc, condKnown_ok hc, flags]
    have popped : pop16 { s with st0 := f } = .ok (v, { s with st0 := f, sp := s.sp - 1 }) :=
      (pop16_ok_iff ..).2 ⟨rfl, hv⟩
    simp only [Res.ok_bind, holds, if_true, popped]
    rfl
  · rw [exec, execXretc, condKnown_ok hc, flags]
    simp only [Res.ok_bind, fails]
    rfl
  · obtain ⟨u, stored, pushed⟩ := push16_stored (s.rpc.extractLsb' 0 16) ho
    obtain ⟨w, stored', pushed'⟩ := push16_stored ((s.rpc.extractLsb' 16 6).zeroExtend 16) (stored.open_above ho')
    refine ⟨u, w, stored, stored', ?_⟩
    have sp : s.sp + 1 + 1 = s.sp + 2 := BitVec.add_assoc ..
    rw [exec, execLcr, pushed]
    simp only [Res.ok_bind, pushed', sp]
    rfl
  · have sp : s.sp - 1 - 1 = s.sp - 2 := BitVec.sub_sub ..
    have popped : pop16 s = .ok (hi, { s with sp := s.sp - 1 }) := (pop16_ok_iff ..).2 ⟨rfl, hhi⟩
    have popped' : pop16 { s with sp := s.sp - 1 } = .ok (lo, { s with sp := s.sp - 1 - 1 }) :=
      (pop16_ok_iff ..).2 ⟨rfl, by rw [sp]; exact hlo⟩
    rw [exec, execLretr, popped]
    simp only [Res.ok_bind, popped', sp]
    rfl

end

section
-- One proof at a time: elaborated side by side, the proofs of the joined text need more memory than a check has.
set_option Elab.async false
/-! PROOFS. The results of the instructions with a program-space operand, and of the data moves (O48 to O50, O58). -/

open Sys2Proof Sys2Proof.Machine

namespace Sys2Proof.Machine

section
variable {s t : State} {loc : Loc}

/-! ## The operand's state keeps the repeat -/

theorem resolve_repeating {w : Width} {pl : Place} (h : resolve w loc s = .ok (pl, t)) : t.repeating = s.repeating := by
  rw [resolve_frame h]

theorem readLoc16_repeating {v : Word} (h : readLoc16 s loc = .ok (v, t)) : t.repeating = s.repeating := by
  obtain ⟨pl, hr, -⟩ := readLoc16_cases h
  exact resolve_repeating hr

theorem readLoc32_repeating {v : Long} (h : readLoc32 s loc = .ok (v, t)) : t.repeating = s.repeating := by
  obtain ⟨pl, hr, -⟩ := readLoc32_cases h
  exact resolve_repeating hr

/-- The copy of the address moves where the instruction is repeated. -/
theorem stepOperand_of_repeating {u : State} (kept : u.repeating = s.repeating) (a k : ProgAddr) :
    u.stepOperand a k = { u with rptAddr := if s.repeating then some (a + k) else u.rptAddr } := by
  rw [State.stepOperand_eq, kept]

/-! ## Multiply and accumulate -/

theorem macConst_next {v m : Word} {a base : ProgAddr} (h : Reads16 s loc v t) (ha : s.operandAddr base = a)
    (hm : readProg t a = .ok m) : macConst base loc s = .next (((t.mac v m).stepOperand a 1).advance 2) := by
  rw [macConst, withLoc_run h.1, h.2]
  simp only [Res.ok_bind, ha, hm]
  rfl

theorem macXar7_next {v m : Word} {a : ProgAddr} (h : Reads16 s loc v t) (free : s.locUsesXar7 loc = false)
    (ha : s.operandAddr s.xar7Addr = a) (hm : readProg t a = .ok m) :
    execMacXar7 loc s = .next (((t.mac v m).stepOperand a 1).advance 2) := by
  rw [execMacXar7, withLoc_run h.1, xar7Free_ok free, h.2]
  simp only [Res.ok_bind, ha, hm]
  rfl

theorem macXar7Inc_next {v m : Word} (h : Reads16 s loc v t) (free : s.locUsesXar7 loc = false)
    (hm : readProg t s.xar7Addr = .ok m) : execMacXar7Inc loc s = .next (((t.mac v m).bumpXar7 1).advance 2) := by
  rw [execMacXar7Inc, withLoc_run h.1, xar7Free_ok free, h.2]
  simp only [Res.ok_bind, hm]
  rfl

theorem macLong_next {v m : Long} {a k : ProgAddr} {f : Long → Long → State → State} (h : Reads32 s loc v t)
    (free : s.locUsesXar7 loc = false) (ha : s.operandAddr s.xar7Addr = a) (hm : readProg32 t a = .ok m) :
    macLong loc s k f = .next (((f v m t).stepOperand a k).advance 2) := by
  rw [macLong, withLoc_run h.1, xar7Free_ok free, h.2]
  simp only [Res.ok_bind, ha, hm]
  rfl

theorem macLongInc_next {v m : Long} {f : Long → Long → State → State} (h : Reads32 s loc v t)
    (free : s.locUsesXar7 loc = false) (hm : readProg32 t s.xar7Addr = .ok m) :
    macLongInc loc s f = .next (((f v m t).bumpXar7 2).advance 2) := by
  rw [macLongInc, withLoc_run h.1, xar7Free_ok free, h.2]
  simp only [Res.ok_bind, hm]
  rfl

/-! ## Moves -/

theorem movad_stored {a : DataAddr} {v : Word} (h : Selects .word s loc (.mem a) t) (hv : readData t a = .ok v)
    (ho : Place.Open16 t (.mem (a + 1))) :
    ∃ u, Stored16 (t.accAddP.setT v) (.mem (a + 1)) v u ∧ execMovad loc s = .next (u.advance 1) := by
  have ho' : Place.Open16 (t.accAddP.setT v) (.mem (a + 1)) := ho
  obtain ⟨u, hu, stored⟩ := writePlace16_stored v ho'
  refine ⟨u, stored, ?_⟩
  rw [execMovad, withLoc_run h.1, h.2]
  simp only [Res.ok_bind, hv, show writeData (t.accAddP.setT v) (a + 1) v = .ok u from hu]
  rfl

theorem xmacd_stored {a : DataAddr} {v m : Word} {c : BitVec 16} {b : ProgAddr} (h : Selects .word s loc (.mem a) t)
    (hv : readData t a = .ok v) (hb : s.operandAddr (pmaHigh c) = b) (hm : readProg t b = .ok m)
    (ho : Place.Open16 ((t.mac v m).stepOperand b 1) (.mem (a + 1))) :
    ∃ u, Stored16 ((t.mac v m).stepOperand b 1) (.mem (a + 1)) v u ∧ execXmacd loc c s = .next (u.advance 2) := by
  obtain ⟨u, hu, stored⟩ := writePlace16_stored v ho
  refine ⟨u, stored, ?_⟩
  rw [execXmacd, withLoc_run h.1, h.2]
  simp only [Res.ok_bind, hv, hb, hm, show writeData ((t.mac v m).stepOperand b 1) (a + 1) v = .ok u from hu]
  rfl

theorem pread_stored {pl : Place} {v : Word} {a : ProgAddr} (h : Selects .word s loc pl t)
    (ha : s.operandAddr s.xar7Addr = a) (hv : readProg t a = .ok v) (ho : pl.Open16 (t.stepOperand a 1)) :
    ∃ u, Stored16 (t.stepOperand a 1) pl v u ∧ execPread loc s = .next (u.advance 1) := by
  obtain ⟨u, hu, stored⟩ := writePlace16_stored v ho
  refine ⟨u, stored, ?_⟩
  rw [execPread, withLoc_run h.1, h.2]
  simp only [Res.ok_bind, ha, hv, hu]
  rfl

theorem pwrite_next {v : Word} {a : ProgAddr} {u : State} (h : Reads16 s loc v t) (ha : s.operandAddr s.xar7Addr = a)
    (hu : writeProg (t.stepOperand a 1) a v = .ok u) : execPwrite loc s = .next (u.advance 1) := by
  rw [execPwrite, withLoc_run h.1, h.2]
  simp only [Res.ok_bind, ha, hu]
  rfl

theorem Place.Open16_rptAddr (t : State) (o : Option ProgAddr) (pl : Place) :
    pl.Open16 { t with rptAddr := o } ↔ pl.Open16 t := by cases pl <;> rfl

end

end Sys2Proof.Machine

/-- Settles O48: the address is the one `here` names, and RPT moves its copy. -/
theorem programWordMacResults : Obligations.ProgramWordMacResults := by
  intro s t loc v m c a h hm r u u' here
  have moved : (.next (((t.mac v m).stepOperand a 1).advance 2) : Host.Outcome State Fault Refusal) = .next u' := by
    have kept : (t.mac v m).repeating = s.repeating := readLoc16_repeating (t := t) h.2
    rw [stepOperand_of_repeating kept]
    rfl
  refine ⟨fun ha => ?_, fun ha => ?_, fun free ha => ?_, fun free ha => ?_⟩
  · exact (macConst_next h ha hm).trans moved
  · exact (macConst_next h ha hm).trans moved
  · exact (macXar7_next h free ha hm).trans moved
  · exact macXar7Inc_next h free (by rw [← hm, ← ha]; rfl)

/-- Settles O50: the same shapes with 32 bits of program space. -/
theorem programLongMacResults : Obligations.ProgramLongMacResults := by
  intro s t loc v m a h hm free f d i q dm im qm x on up
  have kept : t.repeating = s.repeating := readLoc32_repeating h.2
  refine ⟨fun ha => ?_, fun ha => ?_⟩
  · simp only [exec, execDmacXar7, execImaclXar7, execQmaclXar7, macLong_next h free ha hm]
    rw [stepOperand_of_repeating (u := t.dmac v m) kept,
      stepOperand_of_repeating (u := t.accAddU.setIProd (mul32s v m)) kept,
      stepOperand_of_repeating (u := t.accAddP.setProductHi v m) kept]
    exact ⟨rfl, rfl, rfl⟩
  · have hm' : readProg32 t s.xar7Addr = .ok m := by rw [← hm, ← ha]; rfl
    simp only [exec, execDmacXar7Inc, execImaclXar7Inc, execQmaclXar7Inc, macLongInc_next h free hm']
    exact ⟨rfl, rfl, rfl⟩

/-- Settles O49: the address after the operand's own is open, so the word read is stored there. -/
theorem dataMoveResults : Obligations.DataMoveResults := by
  intro s t loc a v m c b h hv ho r w
  refine ⟨movad_stored h hv ho, fun hm hb => ?_⟩
  have kept : (t.mac v m).repeating = s.repeating := resolve_repeating (t := t) h.2
  have moved := stepOperand_of_repeating kept b 1
  obtain ⟨u, stored, next⟩ := xmacd_stored h hv hb hm (by rw [moved]; exact ho)
  rw [moved] at stored
  exact ⟨u, stored, next⟩

/-- Settles O58: the read and the write at the address in XAR7 or its copy. -/
theorem programSpaceMoveResults : Obligations.ProgramSpaceMoveResults := by
  intro s t loc pl v a ha on
  refine ⟨fun h hv ho => ?_, fun h ordered => ?_⟩
  · have moved := stepOperand_of_repeating (resolve_repeating h.2) a 1
    obtain ⟨u, stored, next⟩ := pread_stored h ha hv (by rw [moved]; exact (Place.Open16_rptAddr ..).2 ho)
    rw [moved] at stored
    exact ⟨u, stored, next⟩
  · have moved := stepOperand_of_repeating (readLoc16_repeating h.2) a 1
    have written : writeProg (t.stepOperand a 1) a v = .ok { t with
        mem := t.mem.setWord (t.progWord a) v, stores := t.mark (t.progWord a) true, rptAddr := on } := by
      rw [moved]
      exact (writeProg_ok_iff ..).2 ⟨ordered, rfl⟩
    exact ⟨_, Memory.word_setWord_self .., fun b hb => Memory.get_setWord_ne _ _ _ _ (by omega) (by omega),
      pwrite_next h ha written⟩

end
